-- ==== Sys2Proof/Word.lean ====
section
/-! DEFINITION. The word types of L4MC: the 16-bit micro-operation word (30_encoding.md R80), the 8-bit ROM word
address (10_state.md R24) and the 8-bit pattern (R36). -/

namespace Sys2Proof

/-- A micro-operation word (30_encoding.md R80). -/
abbrev Word := BitVec 16

/-- A ROM word address, the width of PC (10_state.md R24). -/
abbrev Addr := BitVec 8

/-- One byte: a segment pattern (10_state.md R36), or half a word of a ROM image (20_memory.md R65). -/
abbrev Byte := BitVec 8

end Sys2Proof
end

