-- ==== Sys2Proof/Syntax.lean ====
section
/-! DEFINITION. The 23 micro-operations of 30_encoding.md R82 as one inductive, with the types of their operands. -/

namespace Sys2Proof

/-- The ControllerState (10_state.md R30): "one of {Idle, Pressed, Released, CooldownActive}". -/
inductive ControllerState where
  | idle
  | pressed
  | released
  | cooldownActive
  deriving DecidableEq, Repr, Inhabited

/-- The four wait kinds (00_scope.md glossary, 30_encoding.md R89). -/
inductive WaitKind where
  | microsecond
  | millisecond
  | tenMilliseconds
  | oneSecond
  deriving DecidableEq, Repr, Inhabited

/-- The micro-operations, one constructor per row of 30_encoding.md R82. -/
inductive Instr where
  /-- WAIT.US, 40_timer_ops.md R107. -/
  | waitUs
  /-- WAIT.MS, 40_timer_ops.md R108. -/
  | waitMs
  /-- WAIT.10MS, 40_timer_ops.md R109. -/
  | wait10ms
  /-- WAIT.1S, 40_timer_ops.md R110. -/
  | wait1s
  /-- TINIT, 40_timer_ops.md R106. -/
  | tinit
  /-- ADCINIT, 41_adc_ops.md R123. -/
  | adcinit
  /-- SAMPLE, 41_adc_ops.md R124. -/
  | sample
  /-- MOTINIT, 42_motor_ops.md R141. -/
  | motinit
  /-- APPLY, 42_motor_ops.md R142. -/
  | apply
  /-- MOTOR.OFF, 42_motor_ops.md R143. -/
  | motorOff
  /-- MOTOR.ON, 42_motor_ops.md R144. -/
  | motorOn
  /-- DISPINIT, 44_display_ops.md R181. -/
  | dispinit
  /-- DISP d, 44_display_ops.md R182; `d` is `imm[3:0]`, well-formed when it is a digit. -/
  | disp (d : BitVec 4)
  /-- DISP.CLR, 44_display_ops.md R183. -/
  | dispClr
  /-- CDRUN, 44_display_ops.md R184. -/
  | cdrun
  /-- IRQINIT, 43_control_ops.md R160. -/
  | irqinit
  /-- IRQ.OFF, 43_control_ops.md R161. -/
  | irqOff
  /-- IRQ.ON, 43_control_ops.md R162. -/
  | irqOn
  /-- GIE.ON, 43_control_ops.md R163. -/
  | gieOn
  /-- STREL, 43_control_ops.md R164. -/
  | strel
  /-- STIDLE, 43_control_ops.md R165. -/
  | stidle
  /-- BST s, tt, 43_control_ops.md R166. -/
  | bst (s : ControllerState) (tt : Addr)
  /-- JMP tt, 43_control_ops.md R167. -/
  | jmp (tt : Addr)
  deriving DecidableEq, Repr

end Sys2Proof
end

