-- ==== Sys2Proof/Config.lean ====
section
/-! DEFINITION. What an implementation fixes and what the spec leaves open: the parameter set of 00_scope.md R7 as plain
data, the moves of the agents (R8), the values a reset leaves unspecified (10_state.md R41), the reference set REF0, and
the free values, constants without a body. -/

namespace Sys2Proof

/-- The timer configurations (20_memory.md R60, R63). The code 3 has no entry and no value here (log 20). -/
inductive TimerCfg where
  | us
  | ms
  | s
  deriving DecidableEq, Repr, Inhabited

/-- Which change of `btn` is an interrupt edge (00_scope.md R7, 60_exceptions.md R213, 90_conflicts.md C1). -/
inductive EdgeMode where
  | rising
  | falling
  | anyChange
  deriving DecidableEq, Repr, Inhabited

/-- The converter's reference selection ADC_REF (00_scope.md R7): the full-scale reference, or another selection by a
code the spec does not give. No rule reads it (10_state.md R35). -/
inductive AdcRef where
  | fullScale
  | other (code : Nat)
  deriving DecidableEq, Repr, Inhabited

/-- A parameter set of 00_scope.md R7, well-formed or not. CENTER and PWM_TOP, which the table fixes at 511 and 1023,
are constants of Machine/Params.lean; THRESH is derived there; ROM is a field of State. F_CLK, in Hz, is the ratio
`fClkNum / fClkDen`, and ADC_DIV and PWM_DIV, whose type the table does not give, are natural numbers (log 23, DESIGN
CHOICE). -/
structure ParamSet where
  deadzone : Nat
  fClkNum : Nat
  fClkDen : Nat
  prescaleUs : Nat
  prescaleMs : Nat
  prescaleS : Nat
  wCnt : Nat
  settleKind : WaitKind
  seg : List (BitVec 8)
  segBlank : BitVec 8
  /-- A natural number: DESIGN CHOICE, the table gives only the band of F_CLK / ADC_DIV (log 23). -/
  adcDiv : Nat
  adcChannel : Nat
  adcRef : AdcRef
  edgeMode : EdgeMode
  /-- A natural number: DESIGN CHOICE, the table says only ≥ 1 (log 23). -/
  pwmDiv : Nat
  deriving DecidableEq, Repr, Inhabited

/-- REF0, the spec's reference parameter set (00_scope.md R7). Its ten segment patterns are marked there as from general
knowledge: PRESUMED (log 2). -/
def ParamSet.ref0 : ParamSet where
  deadzone := 0
  fClkNum := 16000000
  fClkDen := 1
  prescaleUs := 8
  prescaleMs := 64
  prescaleS := 1024
  wCnt := 16
  settleKind := .tenMilliseconds
  seg := [0x3F, 0x06, 0x5B, 0x4F, 0x66, 0x6D, 0x7D, 0x07, 0x7F, 0x6F]
  segBlank := 0x00
  adcDiv := 128
  adcChannel := 0
  adcRef := .fullScale
  edgeMode := .rising
  pwmDiv := 1

/-- One step of one agent (00_scope.md R8), with what the environment supplies (70_reset_and_hazards.md R262). -/
inductive Move where
  /-- The sequencer's step. -/
  | seq
  /-- A tick of `clk`. -/
  | clk
  /-- A tick of the PWM clock. -/
  | pwm
  /-- Completion of a conversion, with the environment's present code `ain_code` (41_adc_ops.md R121). -/
  | adc (ain : BitVec 10)
  /-- A change of `btn` to a new level (60_exceptions.md R213). -/
  | btn (level : Bool)
  /-- The interrupt handler (60_exceptions.md R215). -/
  | isr
  /-- Reset, with the level of `btn` at its release (70_reset_and_hazards.md R240, 10_state.md R41). -/
  | rst (level : Bool)
  deriving DecidableEq, Repr, Inhabited

/-- Values of the registers that a reset leaves unspecified (10_state.md R41, 70_reset_and_hazards.md R243). ADRES is
given by its ten result bits, bits [15:10] being 0 (30_encoding.md R91, log 7). -/
structure Unspecified where
  mag : BitVec 10
  adres : BitVec 10
  tpre : Nat
  tdiv : Nat
  tcnt : Nat
  tcmp : Nat
  cdig : BitVec 4
  pcnt : BitVec 10
  deriving DecidableEq, Repr, Inhabited

/-- All zero: what State.reset takes for the unspecified registers (log 6, DESIGN CHOICE). -/
def Unspecified.zero : Unspecified := ⟨0, 0, 0, 0, 0, 0, 0, 0⟩

/-- The OPEN parameter values of the implementation (00_scope.md R7); nothing is known of them (log 1). -/
opaque Config.openParams : ParamSet

/-- The level of `btn` at the release of the first reset (10_state.md R41), an environment input (log 9). -/
opaque Config.btnAtReset : Bool

/-- The schedule where State lists no move: the n-th free choice of an agent's step (00_scope.md R8, log 3). -/
opaque Config.freeMove : Nat → Move

/-- The code of an untrusted conversion, "any code" (41_adc_ops.md R121, R122, log 8). -/
opaque Config.freeCode : Nat → BitVec 10

/-- The unspecified registers after an RST step (10_state.md R41, 93_implementation_defined.md U1, log 7). -/
opaque Config.freeUnspecified : Nat → Unspecified

/-- WREM after a sub-wait that ends with WREM = 0, which no run reaches (log 15). -/
opaque Config.waitUnderflow : BitVec 4

/-- SegRead of a value the table has no entry for, which no run asks for (20_memory.md R62, U12, log 16). -/
opaque Config.segNoEntry : Nat → BitVec 8

end Sys2Proof
end

