-- ==== Sys2Proof/Machine/Params.lean ====
section
/-! DEFINITION. The derived parameters and the well-formedness of a parameter set (00_scope.md R7, 40_timer_ops.md R101),
and the parameter set of the machine. -/

namespace Sys2Proof.Machine

/-- CENTER, fixed: "half of the 1023 maximum" (00_scope.md R7, 42_motor_ops.md R135). -/
def center : Nat := 511

/-- PWM_TOP (00_scope.md R7, 42_motor_ops.md R146). -/
def pwmTop : Nat := 1023

/-- `round_half_up(num / den)` = ⌊num/den + 1/2⌋ for `den` > 0 (00_scope.md section 6). -/
def roundHalfUp (num den : Nat) : Nat := (2 * num + den) / (2 * den)

/-- 1 / T[k], the target time's reciprocal in 1/s (40_timer_ops.md R101): 10⁻⁶ s, 10⁻³ s, 1 s. -/
def perSecond : TimerCfg → Nat
  | .us => 1000000
  | .ms => 1000
  | .s => 1

end Sys2Proof.Machine

namespace Sys2Proof

/-- PRESCALE[k] (00_scope.md R7). -/
def ParamSet.prescale (p : ParamSet) : TimerCfg → Nat
  | .us => p.prescaleUs
  | .ms => p.prescaleMs
  | .s => p.prescaleS

/-- THRESH[k] = round_half_up(T[k] × F_CLK / PRESCALE[k]) (40_timer_ops.md R101). -/
def ParamSet.thresh (p : ParamSet) (k : TimerCfg) : Nat :=
  Machine.roundHalfUp p.fClkNum (p.fClkDen * Machine.perSecond k * p.prescale k)

/-- 1 ≤ THRESH[k] ≤ 2^W_CNT − 1 and PRESCALE[k] ≥ 1 (00_scope.md R7, 40_timer_ops.md R101). -/
def ParamSet.timerOk (p : ParamSet) (k : TimerCfg) : Bool :=
  decide (1 ≤ p.prescale k) && decide (1 ≤ p.thresh k) && decide (p.thresh k ≤ 2 ^ p.wCnt - 1)

/-- 0 ≤ DEADZONE ≤ 1023 (00_scope.md R7). -/
def ParamSet.deadzoneOk (p : ParamSet) : Bool := decide (p.deadzone ≤ 1023)

/-- F_CLK > 0 (00_scope.md R7). -/
def ParamSet.clockOk (p : ParamSet) : Bool := decide (0 < p.fClkNum) && decide (0 < p.fClkDen)

/-- W_CNT ≥ 1 (00_scope.md R7). -/
def ParamSet.widthOk (p : ParamSet) : Bool := decide (1 ≤ p.wCnt)

/-- SEG is ten patterns (00_scope.md R7, 93_implementation_defined.md U4). -/
def ParamSet.segOk (p : ParamSet) : Bool := decide (p.seg.length = 10)

/-- 50 000 ≤ F_CLK / ADC_DIV ≤ 200 000 (00_scope.md R7), for a natural ADC_DIV (log 23, DESIGN CHOICE). -/
def ParamSet.adcBandOk (p : ParamSet) : Bool :=
  decide (1 ≤ p.adcDiv) && decide (50000 * (p.fClkDen * p.adcDiv) ≤ p.fClkNum) &&
    decide (p.fClkNum ≤ 200000 * (p.fClkDen * p.adcDiv))

/-- PWM_DIV ≥ 1 (00_scope.md R7). -/
def ParamSet.pwmOk (p : ParamSet) : Bool := decide (1 ≤ p.pwmDiv)

/-- The well-formed parameter sets: "every constraint in the last column holds" (00_scope.md R7), but for ROM's, which is
no field of the set (log 11). -/
def ParamSet.wellFormed (p : ParamSet) : Bool :=
  p.deadzoneOk && p.clockOk && p.widthOk && p.timerOk .us && p.timerOk .ms && p.timerOk .s && p.segOk &&
    p.adcBandOk && p.pwmOk

/-- A well-formed parameter set. "a model refuses (gives no meaning to) an ill-formed set" (00_scope.md R7, U4): an
ill-formed set is no value of this type, so no state holds one (log 1). -/
structure Params extends ParamSet where
  ok : toParamSet.wellFormed = true
  deriving DecidableEq, Repr

/-- The check that refuses an ill-formed set (00_scope.md R7). -/
def ParamSet.check? (p : ParamSet) : Option Params :=
  if h : p.wellFormed = true then some { toParamSet := p, ok := h } else none

/-- REF0 is well-formed. -/
def Params.ref0 : Params := { toParamSet := ParamSet.ref0, ok := by decide }

/-- The hardware's parameter set: DEADZONE = 0 ("currently 0", 92_eei_decisions.md D9) and EDGE_MODE = Rising (D22,
90_conflicts.md C1), all else OPEN and unknown. Were the unknown values ill-formed, the set would be REF0 (log 2). -/
def Config.params : Params :=
  (ParamSet.check? { Config.openParams with deadzone := 0, edgeMode := .rising }).getD Params.ref0

/-- The number of bits that holds the largest PRESCALE, the width of TPRE and TDIV (10_state.md R20). -/
def ParamSet.preWidth (p : ParamSet) : Nat :=
  Nat.log2 (max p.prescaleUs (max p.prescaleMs p.prescaleS)) + 1

end Sys2Proof
end

