-- ==== Sys2Proof/WellFormed.lean ====
section
/-! DEFINITION. Which instructions are well-formed: the one operand that admits fewer values than its field is the digit
of DISP (30_encoding.md R82, extra condition `imm[3:0]` ≤ 9). -/

namespace Sys2Proof

/-- `d` is a digit 0 to 9, an index of the segment table (20_memory.md R62). -/
def isDigit (d : BitVec 4) : Bool := decide (d.toNat ≤ 9)

/-- The well-formed instructions: those that a word of 30_encoding.md R82 stands for. -/
def Instr.wellFormed : Instr → Bool
  | .waitUs => true
  | .waitMs => true
  | .wait10ms => true
  | .wait1s => true
  | .tinit => true
  | .adcinit => true
  | .sample => true
  | .motinit => true
  | .apply => true
  | .motorOff => true
  | .motorOn => true
  | .dispinit => true
  | .disp d => isDigit d
  | .dispClr => true
  | .cdrun => true
  | .irqinit => true
  | .irqOff => true
  | .irqOn => true
  | .gieOn => true
  | .strel => true
  | .stidle => true
  | .bst _ _ => true
  | .jmp _ => true

end Sys2Proof
end

