-- ==== Sys2Proof/Decode.lean ====
section
/-! DEFINITION. The codes of operand values (30_encoding.md R87, R89), the decoder (R80 to R84), the encoder written
from the same table, the rows of R82 as data, and ROM images as bytes (20_memory.md R65). -/

namespace Sys2Proof

/-! ### Codes of operand values -/

/-- The 2-bit code of a ControllerState (30_encoding.md R87). -/
def ControllerState.code : ControllerState → BitVec 2
  | .idle => 0b00#2
  | .pressed => 0b01#2
  | .released => 0b10#2
  | .cooldownActive => 0b11#2

/-- The ControllerState of a 2-bit code; all four codes are used (30_encoding.md R87). -/
def ControllerState.ofCode (c : BitVec 2) : ControllerState :=
  if c = 0b00#2 then .idle
  else if c = 0b01#2 then .pressed
  else if c = 0b10#2 then .released
  else .cooldownActive

/-- The `sub` field of a WAIT word is the kind (30_encoding.md R89). -/
def WaitKind.code : WaitKind → BitVec 4
  | .microsecond => 0#4
  | .millisecond => 1#4
  | .tenMilliseconds => 2#4
  | .oneSecond => 3#4

/-- The WAIT operation of a kind (30_encoding.md R82, R89). -/
def WaitKind.instr : WaitKind → Instr
  | .microsecond => .waitUs
  | .millisecond => .waitMs
  | .tenMilliseconds => .wait10ms
  | .oneSecond => .wait1s

/-! ### Fields of a word (30_encoding.md R80) -/

/-- `op`, bits [15:12]. -/
def opField (w : Word) : BitVec 4 := w.extractLsb' 12 4

/-- `sub`, bits [11:8]. -/
def subField (w : Word) : BitVec 4 := w.extractLsb' 8 4

/-- `imm`, bits [7:0]. -/
def immField (w : Word) : Addr := w.extractLsb' 0 8

/-- `{op, sub, imm}`, the first operand in the high bits (30_encoding.md R80, 00_scope.md section 6). -/
def packWord (op sub : BitVec 4) (imm : Addr) : Word :=
  BitVec.ofNat 16 (op.toNat * 2 ^ 12 + sub.toNat * 2 ^ 8 + imm.toNat)

/-! ### The decoder -/

/-- Why a word is no operation (30_encoding.md R84). Every one of them makes the word illegal. -/
inductive Reject where
  /-- `op` = 0x0 or `op` ≥ 0x9. -/
  | unusedGroup
  /-- `sub` selects no operation of the group (for BST, `sub[3:2]` ≠ 0; for JMP, `sub` ≠ 0). -/
  | unusedSub
  /-- A field that the table shows as zero is not zero (30_encoding.md R81). -/
  | nonzeroField
  /-- DISP with `imm[3:0]` > 9. -/
  | notADigit
  deriving DecidableEq, Repr

/-- `i`, provided `imm` is zero (30_encoding.md R81). -/
def bare (imm : Addr) (i : Instr) : Except Reject Instr :=
  if imm = 0#8 then .ok i else .error .nonzeroField

/-- DISP's digit, `imm[3:0]`, with `imm[7:4]` zero and the digit at most 9 (30_encoding.md R81, R84). -/
def decodeDisp (imm : Addr) : Except Reject Instr :=
  if imm.extractLsb' 4 4 ≠ 0#4 then .error .nonzeroField
  else if isDigit (imm.extractLsb' 0 4) then .ok (.disp (imm.extractLsb' 0 4))
  else .error .notADigit

/-- Group 0x1: the four WAITs and TINIT. -/
def decodeTimer (sub : BitVec 4) (imm : Addr) : Except Reject Instr :=
  if sub = 0x0#4 then bare imm .waitUs
  else if sub = 0x1#4 then bare imm .waitMs
  else if sub = 0x2#4 then bare imm .wait10ms
  else if sub = 0x3#4 then bare imm .wait1s
  else if sub = 0x8#4 then bare imm .tinit
  else .error .unusedSub

/-- Group 0x2: the converter. -/
def decodeAdc (sub : BitVec 4) (imm : Addr) : Except Reject Instr :=
  if sub = 0x0#4 then bare imm .adcinit
  else if sub = 0x1#4 then bare imm .sample
  else .error .unusedSub

/-- Group 0x3: the motor stage. -/
def decodeMotor (sub : BitVec 4) (imm : Addr) : Except Reject Instr :=
  if sub = 0x0#4 then bare imm .motinit
  else if sub = 0x1#4 then bare imm .apply
  else if sub = 0x2#4 then bare imm .motorOff
  else if sub = 0x3#4 then bare imm .motorOn
  else .error .unusedSub

/-- Group 0x4: the display. -/
def decodeDisplay (sub : BitVec 4) (imm : Addr) : Except Reject Instr :=
  if sub = 0x0#4 then bare imm .dispinit
  else if sub = 0x1#4 then decodeDisp imm
  else if sub = 0x2#4 then bare imm .dispClr
  else if sub = 0x3#4 then bare imm .cdrun
  else .error .unusedSub

/-- Group 0x5: interrupt control. -/
def decodeIrq (sub : BitVec 4) (imm : Addr) : Except Reject Instr :=
  if sub = 0x0#4 then bare imm .irqinit
  else if sub = 0x1#4 then bare imm .irqOff
  else if sub = 0x2#4 then bare imm .irqOn
  else if sub = 0x3#4 then bare imm .gieOn
  else .error .unusedSub

/-- Group 0x6: the main loop's transitions. -/
def decodeTransition (sub : BitVec 4) (imm : Addr) : Except Reject Instr :=
  if sub = 0x0#4 then bare imm .strel
  else if sub = 0x1#4 then bare imm .stidle
  else .error .unusedSub

/-- Group 0x7: BST, the state code in `sub[1:0]`, `sub[3:2]` zero. -/
def decodeBst (sub : BitVec 4) (imm : Addr) : Except Reject Instr :=
  if sub.extractLsb' 2 2 = 0#2 then .ok (.bst (.ofCode (sub.extractLsb' 0 2)) imm)
  else .error .unusedSub

/-- Group 0x8: JMP, `sub` zero. -/
def decodeJmp (sub : BitVec 4) (imm : Addr) : Except Reject Instr :=
  if sub = 0x0#4 then .ok (.jmp imm) else .error .unusedSub

/-- The decoder: total, one operation or a named rejection for every word (30_encoding.md R80 to R84). -/
def decodeWord (w : Word) : Except Reject Instr :=
  let op := opField w
  let sub := subField w
  let imm := immField w
  if op = 0x1#4 then decodeTimer sub imm
  else if op = 0x2#4 then decodeAdc sub imm
  else if op = 0x3#4 then decodeMotor sub imm
  else if op = 0x4#4 then decodeDisplay sub imm
  else if op = 0x5#4 then decodeIrq sub imm
  else if op = 0x6#4 then decodeTransition sub imm
  else if op = 0x7#4 then decodeBst sub imm
  else if op = 0x8#4 then decodeJmp sub imm
  else .error .unusedGroup

/-! ### The encoder -/

/-- The word of an instruction (30_encoding.md R82, column "word"). -/
def encode : Instr → Word
  | .waitUs => packWord 0x1 (WaitKind.code .microsecond) 0x00
  | .waitMs => packWord 0x1 (WaitKind.code .millisecond) 0x00
  | .wait10ms => packWord 0x1 (WaitKind.code .tenMilliseconds) 0x00
  | .wait1s => packWord 0x1 (WaitKind.code .oneSecond) 0x00
  | .tinit => packWord 0x1 0x8 0x00
  | .adcinit => packWord 0x2 0x0 0x00
  | .sample => packWord 0x2 0x1 0x00
  | .motinit => packWord 0x3 0x0 0x00
  | .apply => packWord 0x3 0x1 0x00
  | .motorOff => packWord 0x3 0x2 0x00
  | .motorOn => packWord 0x3 0x3 0x00
  | .dispinit => packWord 0x4 0x0 0x00
  | .disp d => packWord 0x4 0x1 (d.setWidth 8)
  | .dispClr => packWord 0x4 0x2 0x00
  | .cdrun => packWord 0x4 0x3 0x00
  | .irqinit => packWord 0x5 0x0 0x00
  | .irqOff => packWord 0x5 0x1 0x00
  | .irqOn => packWord 0x5 0x2 0x00
  | .gieOn => packWord 0x5 0x3 0x00
  | .strel => packWord 0x6 0x0 0x00
  | .stidle => packWord 0x6 0x1 0x00
  | .bst s tt => packWord 0x7 (s.code.setWidth 4) tt
  | .jmp tt => packWord 0x8 0x0 tt

/-! ### The opcode map as data (30_encoding.md R82, R83) -/

/-- The extra condition of a row. -/
inductive RowCondition where
  | always
  /-- `imm[3:0]` ≤ 9 -/
  | digit
  deriving DecidableEq, Repr

/-- A row of the opcode map: a word w selects it when `(w & mask) = match` and the extra condition holds. -/
structure OpcodeRow where
  pattern : Word
  mask : Word
  condition : RowCondition
  deriving DecidableEq, Repr

/-- `w` selects the row (30_encoding.md R82). -/
def OpcodeRow.selects (r : OpcodeRow) (w : Word) : Bool :=
  decide (w &&& r.mask = r.pattern) &&
    match r.condition with
    | .always => true
    | .digit => isDigit (w.extractLsb' 0 4)

/-- A row whose word is one fixed value. -/
def fixedRow (w : Word) : OpcodeRow := ⟨w, 0xFFFF, .always⟩

/-- The row of an instruction: the columns match, mask and extra condition of 30_encoding.md R82. -/
def opcodeRow : Instr → OpcodeRow
  | .waitUs => fixedRow 0x1000
  | .waitMs => fixedRow 0x1100
  | .wait10ms => fixedRow 0x1200
  | .wait1s => fixedRow 0x1300
  | .tinit => fixedRow 0x1800
  | .adcinit => fixedRow 0x2000
  | .sample => fixedRow 0x2100
  | .motinit => fixedRow 0x3000
  | .apply => fixedRow 0x3100
  | .motorOff => fixedRow 0x3200
  | .motorOn => fixedRow 0x3300
  | .dispinit => fixedRow 0x4000
  | .disp _ => ⟨0x4100, 0xFFF0, .digit⟩
  | .dispClr => fixedRow 0x4200
  | .cdrun => fixedRow 0x4300
  | .irqinit => fixedRow 0x5000
  | .irqOff => fixedRow 0x5100
  | .irqOn => fixedRow 0x5200
  | .gieOn => fixedRow 0x5300
  | .strel => fixedRow 0x6000
  | .stidle => fixedRow 0x6100
  | .bst _ _ => ⟨0x7000, 0xFC00, .always⟩
  | .jmp _ => ⟨0x8000, 0xFF00, .always⟩

/-- The 23 rows of the table, in its order (30_encoding.md R82). -/
def opcodeRows : List OpcodeRow :=
  [.waitUs, .waitMs, .wait10ms, .wait1s, .tinit, .adcinit, .sample, .motinit, .apply, .motorOff, .motorOn,
    .dispinit, .disp 0, .dispClr, .cdrun, .irqinit, .irqOff, .irqOn, .gieOn, .strel, .stidle, .bst .idle 0,
    .jmp 0].map opcodeRow

/-- The illegal words as the prose of 30_encoding.md R84 lists them, field by field; the decoder does not use it. -/
def illegalByFields (w : Word) : Bool :=
  let op := (opField w).toNat
  let sub := (subField w).toNat
  let imm := (immField w).toNat
  decide (op = 0x0) || decide (0x9 ≤ op)
    || (decide (op = 0x1) && (!([0, 1, 2, 3, 8].contains sub) || decide (imm ≠ 0)))
    || (decide (op = 0x2) && (decide (1 < sub) || decide (imm ≠ 0)))
    || ([0x3, 0x4, 0x5].contains op && decide (3 < sub))
    || ([0x3, 0x5].contains op && decide (imm ≠ 0))
    || (decide (op = 0x4) && [0, 2, 3].contains sub && decide (imm ≠ 0))
    || (decide (op = 0x4) && decide (sub = 1) && (decide (imm / 16 ≠ 0) || decide (9 < imm % 16)))
    || (decide (op = 0x6) && (decide (1 < sub) || decide (imm ≠ 0)))
    || (decide (op = 0x7) && decide (sub / 4 ≠ 0))
    || (decide (op = 0x8) && decide (sub ≠ 0))

/-! ### ROM images as bytes (20_memory.md R65) -/

/-- The two bytes of a word in an image, high byte first (20_memory.md R65). -/
def wordBytes (w : Word) : List Byte := [w.extractLsb' 8 8, w.extractLsb' 0 8]

/-- The word of two image bytes, high byte first (20_memory.md R65). -/
def bytesWord (hi lo : Byte) : Word := BitVec.ofNat 16 (hi.toNat * 2 ^ 8 + lo.toNat)

/-- A ROM image as a byte stream (20_memory.md R65). -/
def imageBytes (rom : List Word) : List Byte := rom.flatMap wordBytes

/-- The words of a byte stream; a stream of an odd number of bytes is no image. -/
def imageWords : List Byte → Option (List Word)
  | [] => some []
  | [_] => none
  | hi :: lo :: rest => (imageWords rest).map (bytesWord hi lo :: ·)

/-- Why a byte stream does not begin with an operation. -/
inductive ByteReject where
  /-- Fewer than two bytes are left. -/
  | truncated
  /-- The word is illegal (30_encoding.md R84). -/
  | illegal (r : Reject)
  deriving DecidableEq, Repr

/-- Decode the first operation of a byte stream and give the rest; total on any bytes. -/
def decodeBytes : List Byte → Except ByteReject (Instr × List Byte)
  | hi :: lo :: rest =>
    match decodeWord (bytesWord hi lo) with
    | .ok i => .ok (i, rest)
    | .error r => .error (.illegal r)
  | _ => .error .truncated

/-- The word that spec/opcode_table.json numbers `w` over `nbits` bits: bit 0 the least significant, the bits above
`nbits` zero. -/
def tableWord (nbits w : Nat) : Word := BitVec.ofNat 16 (w % 2 ^ nbits)

/-- What the decoder reads from the instruction whose bits are `w`, numbered as spec/opcode_table.json numbers them. -/
def decodeTableWord (nbits w : Nat) : Option Instr :=
  match decodeBytes (wordBytes (tableWord nbits w)) with
  | .ok (i, _) => some i
  | .error _ => none

end Sys2Proof
end

