-- ==== Sys2Proof/Machine/Program.lean ====
section
/-! DEFINITION. The control program, the 21-word ROM of 45_control_program.md R195, and the ROM as a memory
(20_memory.md R60, R61). -/

namespace Sys2Proof.Machine

/-- The WAIT.SETTLE word 0x1k00, k the kind code (45_control_program.md R195, 30_encoding.md R94). -/
def settleWord (k : WaitKind) : Word := packWord 0x1 k.code 0x00

/-- The control program: boot segment 0x00 to 0x05, loop 0x06 to 0x0A, Pressed handling 0x0B to 0x0D, CooldownActive
handling 0x0E to 0x14 (45_control_program.md R195). -/
def controlRom (k : WaitKind) : List Word :=
  [0x1800, 0x2000, 0x3000, 0x5000, 0x4000, 0x5300] ++
  [0x710B, 0x730E, 0x2100, 0x3100, 0x8006] ++
  [0x6000, settleWord k, 0x8008] ++
  [0x5100, 0x3200, 0x4300, 0x6100, 0x3300, 0x5200, 0x8008]

/-- The canonical form of the ROM: the list index is the word address, so equal ROMs are equal lists; at most 256 words
(20_memory.md R60). -/
def Memory.wf (rom : List Word) : Bool := decide (rom.length ≤ 256)

/-- The word at a ROM address; none at and above ROM_LEN, where "there is no word" (20_memory.md R61). -/
def Memory.read (rom : List Word) (a : Addr) : Option Word := rom[a.toNat]?

/-- A ROM image with word `w` at `a`; words below `a` that the image lacks are 0x0000, "the usual contents of an
unprogrammed ROM" (30_encoding.md R84). No operation does this: it builds an image (log 12). -/
def Memory.place (rom : List Word) (a : Addr) (w : Word) : List Word :=
  (rom ++ List.replicate (a.toNat + 1 - rom.length) 0x0000#16).set a.toNat w

end Sys2Proof.Machine
end

