-- ==== Sys2Proof/Machine/State.lean ====
section
/-! DEFINITION. The state of L4MC: exactly the registers of 10_state.md R20, and the model's own fields (parameters, ROM,
moves, draws); the reset values of R41; the reasons a step can stop. -/

namespace Sys2Proof.Machine

/-- The three directions of a DutyCommand (10_state.md R21). The code 0b11 is no direction (30_encoding.md R88, U3). -/
inductive Direction where
  | brake
  | forward
  | reverse
  deriving DecidableEq, Repr, Inhabited

/-- The cause codes of FCAUSE (30_encoding.md R92); 3 is unused and has no value here (U13). -/
inductive FaultCause where
  | none
  | illegalOp
  | fetchOutOfRom
  deriving DecidableEq, Repr, Inhabited

/-- The state. Register fields in the order of 10_state.md R20. -/
@[ext]
structure State where
  /-- PC (R24). -/
  pc : Addr
  /-- PH (R24): true = issued and holding. -/
  ph : Bool
  /-- WREM (R26). -/
  wrem : BitVec 4
  /-- WCFG (R26). -/
  wcfg : TimerCfg
  /-- FAULT (R27). -/
  fault : Bool
  /-- FCAUSE (R27). -/
  fcause : FaultCause
  /-- MAG (R22). -/
  mag : BitVec 10
  /-- ADEN (R35). -/
  aden : Bool
  /-- ADSC (R35). -/
  adsc : Bool
  /-- ADRES (R35, 30_encoding.md R91). -/
  adres : BitVec 16
  /-- ADRDY (R35). -/
  adrdy : Bool
  /-- CDIR (R23). -/
  cdir : Direction
  /-- CDUTY (R23). -/
  cduty : BitVec 10
  /-- MEN, the motor gate (R20). -/
  men : Bool
  /-- PCNT (42_motor_ops.md R146). -/
  pcnt : BitVec 10
  /-- STATE (R30). -/
  state : ControllerState
  /-- IEN (R31). -/
  ien : Bool
  /-- GIE (R32). -/
  gie : Bool
  /-- IPEND (R33). -/
  ipend : Bool
  /-- BTNQ (R38). -/
  btnq : Bool
  /-- TRUN (R34). -/
  trun : Bool
  /-- TPRE (R34), a number of at most `preWidth` bits (log 14). -/
  tpre : Nat
  /-- TDIV (R34). -/
  tdiv : Nat
  /-- TCNT (R34), below 2^W_CNT (log 14). -/
  tcnt : Nat
  /-- TCMP (R34), below 2^W_CNT. -/
  tcmp : Nat
  /-- TFLAG (R34). -/
  tflag : Bool
  /-- CDIG (R36). -/
  cdig : BitVec 4
  /-- SEGOUT (R36). -/
  segout : BitVec 8
  /-- The model's own: the parameter set (00_scope.md R7, R9, log 1). No step writes it. -/
  params : Params
  /-- The model's own: the micro-program ROM (20_memory.md R60, log 10). No step writes it. -/
  rom : List Word
  /-- The model's own: the moves already decided, the next one first (log 3). -/
  moves : List Move
  /-- The model's own: how many free values have been drawn (log 3). -/
  draws : Nat
  deriving DecidableEq, Repr

/-- A step that stops the model with a fault: none. The machine's own faults are next states with FAULT set
(60_exceptions.md R211), and no rule of the spec lets a step have no outcome. Safe: nothing is cut off. -/
inductive Fault where
  deriving DecidableEq, Repr

/-- A step the model refuses. An ill-formed parameter set is refused before there is a state (`ParamSet.check?`). -/
inductive Refusal where
  /-- An arm of `exec` without a meaning yet raises it; no arm does. Safe. -/
  | notModelled (mnemonic : String)
  deriving DecidableEq, Repr

/-- The outcomes of this machine's steps. -/
abbrev Out := Host.Outcome State Fault Refusal

/-- Every register at its reset value (10_state.md R41), given the parameter set, the ROM, the level of `btn` at the
release of reset and values for the registers that R41 leaves unspecified, cut to their widths. -/
def State.afterReset (p : Params) (rom : List Word) (btn : Bool) (u : Unspecified) : State where
  pc := 0x00
  ph := false
  wrem := 0
  wcfg := .us
  fault := false
  fcause := .none
  mag := u.mag
  aden := false
  adsc := false
  adres := u.adres.setWidth 16
  adrdy := false
  cdir := .brake
  cduty := 0
  men := false
  pcnt := u.pcnt
  state := .idle
  ien := false
  gie := false
  ipend := false
  btnq := btn
  trun := false
  tpre := u.tpre % 2 ^ p.preWidth
  tdiv := u.tdiv % 2 ^ p.preWidth
  tcnt := u.tcnt % 2 ^ p.wCnt
  tcmp := u.tcmp % 2 ^ p.wCnt
  tflag := false
  cdig := u.cdig
  segout := p.segBlank
  params := p
  rom := rom
  moves := []
  draws := 0

/-- The machine right after reset: the launch state of 70_reset_and_hazards.md R262, with the control program in its ROM.
The registers that 10_state.md R41 leaves unspecified are 0 (log 6, DESIGN CHOICE). -/
def State.reset : State :=
  State.afterReset Config.params (controlRom Config.params.settleKind) Config.btnAtReset Unspecified.zero

end Sys2Proof.Machine
end

