-- ==== Sys2Proof/Machine/Ops.lean ====
section
/-! DEFINITION. The named operations over memory and registers that the meanings share: the three table reads
(20_memory.md R61 to R63), the control of PC and PH (10_state.md R24, R25), the two TCU procedures (40_timer_ops.md R103,
R104), the sequencer fault (60_exceptions.md R211) and the interrupt handler (R215). -/

namespace Sys2Proof.Machine

/-! ### Table reads -/

/-- ROM_LEN (20_memory.md R60). -/
def romLen (s : State) : Nat := s.rom.length

/-- `RomRead(a)`; none at and above ROM_LEN (20_memory.md R61). -/
def romRead (s : State) (a : Addr) : Option Word := Memory.read s.rom a

/-- `SegRead(d)` (20_memory.md R62). The table has ten entries; a value 10 to 15, which no run asks for, reads as a free
value (log 16). -/
def segRead (p : Params) (d : BitVec 4) : BitVec 8 := (p.seg[d.toNat]?).getD (Config.segNoEntry d.toNat)

/-- `CfgRead(k)` = (PRESCALE[k], THRESH[k]) (20_memory.md R63). -/
def cfgRead (p : Params) (k : TimerCfg) : Nat × Nat := (p.prescale k, p.thresh k)

/-! ### PC and PH -/

/-- `pc <- t` (43_control_ops.md R169). -/
def goTo (t : Addr) (s : State) : State := { s with pc := t }

/-- `pc <- PC + 1`, modulo 256 (10_state.md R25). -/
def advance (s : State) : State := goTo (s.pc + 1) s

/-- The end of a blocking operation's issue: `PH <- 1`, PC kept (10_state.md R24). -/
def beginHold (s : State) : State := { s with ph := true }

/-- The completion of a blocking operation: `PH <- 0; pc <- PC + 1` (10_state.md R24). -/
def endHold (s : State) : State := advance { s with ph := false }

/-! ### The timer compare unit -/

/-- `TcuStart(k)` (40_timer_ops.md R103): TFLAG is not touched. -/
def tcuStart (k : TimerCfg) (s : State) : State :=
  { s with tpre := (cfgRead s.params k).1, tcmp := (cfgRead s.params k).2, tcnt := 0, tdiv := 0, trun := true }

/-- `TcuStop()` (40_timer_ops.md R104). -/
def tcuStop (s : State) : State := { s with tflag := false, trun := false }

/-- The end of a sub-wait that another follows: `TFLAG <- 0; TcuStart(k)`, in one step (40_timer_ops.md R105, R109). -/
def tcuRestart (k : TimerCfg) (s : State) : State := tcuStart k { s with tflag := false }

/-! ### Faults and the interrupt -/

/-- `raise SeqFault(c)` (60_exceptions.md R211): only FAULT and FCAUSE are written. There is no handler to go to and no
return from it (R212). -/
def raiseSeqFault (c : FaultCause) (s : State) : State := { s with fault := true, fcause := c }

/-- The transition the handler makes (60_exceptions.md R215): out of Idle and Released only. -/
def handlerNext : ControllerState → ControllerState
  | .idle => .pressed
  | .pressed => .pressed
  | .released => .cooldownActive
  | .cooldownActive => .cooldownActive

/-- The interrupt handler's effect, in one step (60_exceptions.md R215). It saves nothing and diverts nothing (R218), so
there is nothing to return from (R219). -/
def serveInterrupt (s : State) : State := { s with ipend := false, state := handlerNext s.state }

end Sys2Proof.Machine
end

