-- ==== Sys2Proof/Machine/Flags.lean ====
section
/-! DEFINITION. The five status flags of 10_state.md R28: how TFLAG and IPEND come to be set, and the conditions that the
holds and the handler read. There are no arithmetic condition codes. -/

namespace Sys2Proof.Machine

/-- TFLAG after a tick that makes the counter `cnt`: set when it equals TCMP, else kept (40_timer_ops.md R102). -/
def compareFlag (cnt cmp : Nat) (flag : Bool) : Bool := if cnt = cmp then true else flag

/-- The edge detector: is the change of `btn` from `old` to `new` the selected one (60_exceptions.md R213)? -/
def isEdge (m : EdgeMode) (old new : Bool) : Bool :=
  match m with
  | .rising => !old && new
  | .falling => old && !new
  | .anyChange => old != new

/-- IPEND after a change of `btn`: set by an edge while IEN = 1, else kept (60_exceptions.md R213). -/
def pendFlag (edge ien ipend : Bool) : Bool := if edge && ien then true else ipend

/-- The handler runs only while IPEND = 1, IEN = 1 and GIE = 1 (60_exceptions.md R215). -/
def handlerEnabled (s : State) : Bool := s.ipend && s.ien && s.gie

/-- The condition that lifts the hold of WAIT.* and CDRUN (40_timer_ops.md R105, 44_display_ops.md R184). -/
def timerDone (s : State) : Bool := s.tflag

/-- The condition that lifts the hold of ADCINIT and SAMPLE (41_adc_ops.md R123, R124). -/
def conversionDone (s : State) : Bool := !s.adsc

end Sys2Proof.Machine
end

