-- ==== Sys2Proof/Machine/Operands.lean ====
section
/-! DEFINITION. Operand forms: the codes of directions, timer configurations and fault causes (30_encoding.md R88, R89,
R92), the configuration and count of a wait kind (40_timer_ops.md R105), the conversion result's bits (30_encoding.md
R91), the state operand of BST, and which operations block (10_state.md R24). -/

namespace Sys2Proof.Machine

/-- `CDIR = {in2-bit, in1-bit}` (30_encoding.md R88). -/
def Direction.code : Direction → BitVec 2
  | .brake => 0b00#2
  | .forward => 0b01#2
  | .reverse => 0b10#2

/-- FCAUSE's code (30_encoding.md R92). -/
def FaultCause.code : FaultCause → BitVec 2
  | .none => 0#2
  | .illegalOp => 1#2
  | .fetchOutOfRom => 2#2

/-- WCFG's code (30_encoding.md R89). -/
def cfgCode : TimerCfg → BitVec 2
  | .us => 0#2
  | .ms => 1#2
  | .s => 2#2

/-- The configuration a wait kind uses (40_timer_ops.md R105, 30_encoding.md R89). -/
def kindCfg : WaitKind → TimerCfg
  | .microsecond => .us
  | .millisecond => .ms
  | .tenMilliseconds => .ms
  | .oneSecond => .s

/-- How many sub-waits a wait kind makes (40_timer_ops.md R105). -/
def kindCount : WaitKind → BitVec 4
  | .microsecond => 1
  | .millisecond => 1
  | .tenMilliseconds => 10
  | .oneSecond => 1

/-- `ADRES[9:0]` (30_encoding.md R91, 20_memory.md R75). -/
def adresResult (r : BitVec 16) : BitVec 10 := r.extractLsb' 0 10

/-- `zext_16` of a 10-bit code (41_adc_ops.md R121). -/
def adresOfCode (v : BitVec 10) : BitVec 16 := v.setWidth 16

/-- BST's condition: STATE is the state operand (43_control_ops.md R166). -/
def stateIs (c : ControllerState) (s : State) : Bool := decide (s.state = c)

/-- WREM - 1. The rule subtracts from 1 to 10 only; from 0, which no run reaches, the result is a free value (log 15). -/
def countDown (n : BitVec 4) : BitVec 4 := if n = 0 then Config.waitUnderflow else n - 1

/-- The blocking operations (10_state.md R24). -/
def blocking : Instr → Bool
  | .waitUs => true
  | .waitMs => true
  | .wait10ms => true
  | .wait1s => true
  | .tinit => false
  | .adcinit => true
  | .sample => true
  | .motinit => false
  | .apply => false
  | .motorOff => false
  | .motorOn => false
  | .dispinit => false
  | .disp _ => false
  | .dispClr => false
  | .cdrun => true
  | .irqinit => false
  | .irqOff => false
  | .irqOn => false
  | .gieOn => false
  | .strel => false
  | .stidle => false
  | .bst _ _ => false
  | .jmp _ => false

end Sys2Proof.Machine
end

