-- ==== Sys2Proof/Machine/Agents.lean ====
section
/-! DEFINITION. The steps of the agents other than SEQ (00_scope.md R8): CLK (40_timer_ops.md R102), PWM (42_motor_ops.md
R146), ADC (41_adc_ops.md R121), BTN and ISR (60_exceptions.md R213, R215), RST (70_reset_and_hazards.md R240). An agent
that is not enabled has no step: its move changes nothing (log 4). -/

namespace Sys2Proof.Machine

/-- The CLK agent's step, one tick of `clk` (40_timer_ops.md R102). -/
def clkStep (s : State) : State :=
  if s.trun then
    if s.tdiv + 1 = s.tpre then
      { s with
        tdiv := 0
        tcnt := (s.tcnt + 1) % 2 ^ s.params.wCnt
        tflag := compareFlag ((s.tcnt + 1) % 2 ^ s.params.wCnt) s.tcmp s.tflag }
    else { s with tdiv := s.tdiv + 1 }
  else s

/-- The PWM agent's step (42_motor_ops.md R146). -/
def pwmStep (s : State) : State := { s with pcnt := BitVec.ofNat 10 ((s.pcnt.toNat + 1) % (pwmTop + 1)) }

/-- A completed conversion's code in ADRES, ADSC cleared (41_adc_ops.md R121). -/
def deliver (v : BitVec 10) (s : State) : State := { s with adres := adresOfCode v, adsc := false }

/-- The ADC agent's step (41_adc_ops.md R121): the environment's code when the conversion is trusted, a free value when
it is not (log 8). -/
def adcStep (ain : BitVec 10) (s : State) : State :=
  if s.adsc then
    if s.adrdy then deliver ain s
    else deliver (Config.freeCode s.draws) { s with draws := s.draws + 1 }
  else s

/-- The BTN agent's step, a change of the input to `level` (60_exceptions.md R213). -/
def btnStep (level : Bool) (s : State) : State :=
  { s with ipend := pendFlag (isEdge s.params.edgeMode s.btnq level) s.ien s.ipend, btnq := level }

/-- The ISR agent's step (60_exceptions.md R215). -/
def isrStep (s : State) : State := if handlerEnabled s then serveInterrupt s else s

/-- The RST agent's step (70_reset_and_hazards.md R240): every register at its value of 10_state.md R41, the unspecified
ones free values (log 7). The ROM, the parameters and the schedule are no registers and stay. -/
def rstStep (level : Bool) (s : State) : State :=
  { State.afterReset s.params s.rom level (Config.freeUnspecified s.draws) with
    moves := s.moves, draws := s.draws + 1 }

end Sys2Proof.Machine
end

