-- ==== Sys2Proof/Machine/Adc.lean ====
section
/-! DEFINITION. The analog sampler's operations: ADCINIT (41_adc_ops.md R123) and SAMPLE (R124). -/

namespace Sys2Proof.Machine

/-- The issue that starts a conversion: `ADSC <- 1; PH <- 1` (41_adc_ops.md R123, R124). -/
def startConversion (s : State) : State := beginHold { s with adsc := true }

/-- ADCINIT (41_adc_ops.md R123): the result of its throw-away conversion is discarded. While it holds with ADSC = 1 SEQ
has no step: nothing changes (log 5). -/
def execAdcinit (s : State) : Out :=
  if s.ph then
    if conversionDone s then .next (endHold { s with adrdy := true }) else .next s
  else .next (startConversion { s with aden := true })

/-- SAMPLE (41_adc_ops.md R124), with ADRDY = 0 as with ADRDY = 1 (log 8). -/
def execSample (s : State) : Out :=
  if s.ph then
    if conversionDone s then .next (endHold { s with mag := adresResult s.adres }) else .next s
  else .next (startConversion s)

end Sys2Proof.Machine
end

