-- ==== Sys2Proof/Machine/Control.lean ====
section
/-! DEFINITION. Interrupt control, the main loop's transitions of STATE, and control transfer (43_control_ops.md R160 to
R167). -/

namespace Sys2Proof.Machine

/-- IRQINIT (43_control_ops.md R160). -/
def execIrqinit (s : State) : Out := .next (advance { s with ipend := false, ien := true })

/-- IRQ.OFF (43_control_ops.md R161). -/
def execIrqOff (s : State) : Out := .next (advance { s with ien := false, ipend := false })

/-- IRQ.ON (43_control_ops.md R162). -/
def execIrqOn (s : State) : Out := .next (advance { s with ien := true })

/-- GIE.ON (43_control_ops.md R163). -/
def execGieOn (s : State) : Out := .next (advance { s with gie := true })

/-- A guarded transition of STATE: "transitions attempted out of sequence are silently ignored" (43_control_ops.md R164,
R165). -/
def transition (a b : ControllerState) (s : State) : State := if stateIs a s then { s with state := b } else s

/-- STREL (43_control_ops.md R164). -/
def execStrel (s : State) : Out := .next (advance (transition .pressed .released s))

/-- STIDLE (43_control_ops.md R165). -/
def execStidle (s : State) : Out := .next (advance (transition .cooldownActive .idle s))

/-- BST s, tt (43_control_ops.md R166). -/
def execBst (c : ControllerState) (tt : Addr) (s : State) : Out :=
  .next (if stateIs c s then goTo tt s else advance s)

/-- JMP tt (43_control_ops.md R167). -/
def execJmp (tt : Addr) (s : State) : Out := .next (goTo tt s)

end Sys2Proof.Machine
end

