-- ==== Sys2Proof/Machine/Display.lean ====
section
/-! DEFINITION. The display's operations: DISPINIT (44_display_ops.md R181), DISP (R182), DISP.CLR (R183), CDRUN
(R184). -/

namespace Sys2Proof.Machine

/-- The display write of SEG_BLANK (44_display_ops.md R181, R183, R184, R187). -/
def blankDisplay (s : State) : State := { s with segout := s.params.segBlank }

/-- The display write of a digit's pattern (44_display_ops.md R182, R187). -/
def showDigit (d : BitVec 4) (s : State) : State := { s with segout := segRead s.params d }

/-- The countdown's digit and its display write (44_display_ops.md R184). -/
def showCountdown (d : BitVec 4) (s : State) : State := showDigit d { s with cdig := d }

/-- DISPINIT (44_display_ops.md R181). -/
def execDispinit (s : State) : Out := .next (advance (blankDisplay s))

/-- DISP d (44_display_ops.md R182). A word with d > 9 "is not this operation: it is illegal", so a term with such a `d`,
which no word decodes to, raises SeqFault(IllegalOp) (log 19). -/
def execDisp (d : BitVec 4) (s : State) : Out :=
  if isDigit d then .next (advance (showDigit d s)) else .next (raiseSeqFault .illegalOp s)

/-- DISP.CLR (44_display_ops.md R183). -/
def execDispClr (s : State) : Out := .next (advance (blankDisplay s))

/-- CDRUN's step at the end of a one-second hold (44_display_ops.md R184): the next digit, or the display-clear. -/
def countdownStep (s : State) : State :=
  if s.cdig = 0 then endHold (blankDisplay (tcuStop s))
  else tcuRestart .s (showCountdown (s.cdig - 1) s)

/-- CDRUN (44_display_ops.md R184). It tests neither STATE nor IEN nor MEN (R186, log 21). While it holds with TFLAG = 0
SEQ has no step: nothing changes (log 5). -/
def execCdrun (s : State) : Out :=
  if s.ph then
    if timerDone s then .next (countdownStep s) else .next s
  else .next (beginHold (tcuStart .s (showCountdown 9 s)))

end Sys2Proof.Machine
end

