-- ==== Sys2Proof/Machine/Mapper.lean ====
section
/-! DEFINITION. The duty-cycle mapper DCM (42_motor_ops.md R135, R136). -/

namespace Sys2Proof.Machine

/-- `map(m)` in mathematical integers, the three cases of 42_motor_ops.md R135. -/
def mapInt (deadzone m : Int) : Direction × Int :=
  if m < (center : Int) - deadzone then (.reverse, ((center : Int) - m) * 2)
  else if m > (center : Int) + deadzone then (.forward, (m - (center : Int) - 1) * 2)
  else (.brake, 0)

/-- The DutyCommand of an AnalogMagnitude, the duty in CDUTY's 10 bits, which it always fits (42_motor_ops.md R136). -/
def dutyMap (p : Params) (mag : BitVec 10) : Direction × BitVec 10 :=
  let r := mapInt (p.deadzone : Int) (mag.toNat : Int)
  (r.1, BitVec.ofInt 10 r.2)

/-- The mapper as 42_motor_ops.md R136 says hardware can build it: an 11-bit unsigned adder, comparing
`m + deadzone < center` and `m > center + deadzone`, with the duty formed in 11 bits and no clamp. No step uses it. -/
def dutyMap11 (deadzone : BitVec 11) (mag : BitVec 10) : Direction × BitVec 10 :=
  let m : BitVec 11 := mag.setWidth 11
  let c : BitVec 11 := BitVec.ofNat 11 center
  if m + deadzone < c then (.reverse, ((c - m) <<< 1).setWidth 10)
  else if m > c + deadzone then (.forward, ((m - c - 1) <<< 1).setWidth 10)
  else (.brake, 0)

end Sys2Proof.Machine
end

