-- ==== Sys2Proof/Machine/Motor.lean ====
section
/-! DEFINITION. The motor stage's operations: MOTINIT (42_motor_ops.md R141), APPLY (R142), MOTOR.OFF (R143), MOTOR.ON
(R144). -/

namespace Sys2Proof.Machine

/-- Write a DutyCommand: CDIR and CDUTY together (10_state.md R23). -/
def writeCommand (c : Direction × BitVec 10) (s : State) : State := { s with cdir := c.1, cduty := c.2 }

/-- MOTINIT (42_motor_ops.md R141). -/
def execMotinit (s : State) : Out := .next (advance { writeCommand (.brake, 0) s with men := true })

/-- APPLY (42_motor_ops.md R142). -/
def execApply (s : State) : Out := .next (advance (writeCommand (dutyMap s.params s.mag) s))

/-- MOTOR.OFF (42_motor_ops.md R143). -/
def execMotorOff (s : State) : Out := .next (advance { s with men := false })

/-- MOTOR.ON (42_motor_ops.md R144). -/
def execMotorOn (s : State) : Out := .next (advance { s with men := true })

end Sys2Proof.Machine
end

