-- ==== Sys2Proof/Machine/Timer.lean ====
section
/-! DEFINITION. The timing operations: the wait engine (40_timer_ops.md R105), the four WAITs (R107 to R110), TINIT
(R106). -/

namespace Sys2Proof.Machine

/-- The wait engine's issue (40_timer_ops.md R105). -/
def waitIssue (k : WaitKind) (s : State) : State :=
  beginHold (tcuStart (kindCfg k) { s with wcfg := kindCfg k, wrem := kindCount k })

/-- The wait engine's step at the end of a sub-wait: complete, or go on to the next sub-wait (40_timer_ops.md R105). -/
def waitSubEnd (s : State) : State :=
  if s.wrem = 1 then endHold { tcuStop s with wrem := 0 }
  else tcuRestart s.wcfg { s with wrem := countDown s.wrem }

/-- The wait engine (40_timer_ops.md R105). While it holds with TFLAG = 0 SEQ has no step: nothing changes (log 5). -/
def waitEngine (k : WaitKind) (s : State) : Out :=
  if s.ph then
    if timerDone s then .next (waitSubEnd s) else .next s
  else .next (waitIssue k s)

/-- WAIT.US (40_timer_ops.md R107). -/
def execWaitUs (s : State) : Out := waitEngine .microsecond s

/-- WAIT.MS (40_timer_ops.md R108). -/
def execWaitMs (s : State) : Out := waitEngine .millisecond s

/-- WAIT.10MS (40_timer_ops.md R109). -/
def execWait10ms (s : State) : Out := waitEngine .tenMilliseconds s

/-- WAIT.1S (40_timer_ops.md R110). -/
def execWait1s (s : State) : Out := waitEngine .oneSecond s

/-- TINIT (40_timer_ops.md R106). -/
def execTinit (s : State) : Out := .next (advance { tcuStop s with tcnt := 0, tdiv := 0 })

end Sys2Proof.Machine
end

