-- ==== Sys2Proof/Machine/Dispatch.lean ====
section
/-! DEFINITION. The meaning of every micro-operation, one arm per constructor: the step SEQ makes for it, by the phase that
PH and the awaited condition select (10_state.md R24, 43_control_ops.md R168). -/

namespace Sys2Proof.Machine

def exec (i : Instr) (s : State) : Host.Outcome State Fault Refusal :=
  match i with
  -- Timing (40_timer_ops.md)
  | .waitUs => Sys2Proof.Machine.execWaitUs s
  | .waitMs => Sys2Proof.Machine.execWaitMs s
  | .wait10ms => Sys2Proof.Machine.execWait10ms s
  | .wait1s => Sys2Proof.Machine.execWait1s s
  | .tinit => Sys2Proof.Machine.execTinit s
  -- Converter (41_adc_ops.md)
  | .adcinit => Sys2Proof.Machine.execAdcinit s
  | .sample => Sys2Proof.Machine.execSample s
  -- Motor stage (42_motor_ops.md)
  | .motinit => Sys2Proof.Machine.execMotinit s
  | .apply => Sys2Proof.Machine.execApply s
  | .motorOff => Sys2Proof.Machine.execMotorOff s
  | .motorOn => Sys2Proof.Machine.execMotorOn s
  -- Display (44_display_ops.md)
  | .dispinit => Sys2Proof.Machine.execDispinit s
  | .disp d => Sys2Proof.Machine.execDisp d s
  | .dispClr => Sys2Proof.Machine.execDispClr s
  | .cdrun => Sys2Proof.Machine.execCdrun s
  -- Sequencer, controller state, interrupt control (43_control_ops.md)
  | .irqinit => Sys2Proof.Machine.execIrqinit s
  | .irqOff => Sys2Proof.Machine.execIrqOff s
  | .irqOn => Sys2Proof.Machine.execIrqOn s
  | .gieOn => Sys2Proof.Machine.execGieOn s
  | .strel => Sys2Proof.Machine.execStrel s
  | .stidle => Sys2Proof.Machine.execStidle s
  | .bst c tt => Sys2Proof.Machine.execBst c tt s
  | .jmp tt => Sys2Proof.Machine.execJmp tt s

end Sys2Proof.Machine
end

