-- ==== Sys2Proof/Machine/Sequencer.lean ====
section
/-! DEFINITION. The SEQ agent's step (43_control_ops.md R168) and the step of any agent (00_scope.md R8). -/

namespace Sys2Proof.Machine

/-- Fetch and decode at PC (43_control_ops.md R168): the fetch check precedes the decode check (60_exceptions.md R217). -/
def fetch (s : State) : Except FaultCause Instr :=
  match romRead s s.pc with
  | none => .error .fetchOutOfRom
  | some w =>
    match decodeWord w with
    | .ok i => .ok i
    | .error _ => .error .illegalOp

/-- The SEQ agent's step (43_control_ops.md R168). With FAULT = 1 it has none (60_exceptions.md R211). With PH = 1 its
step is that of the blocking operation at PC; were there none, which no run reaches, it has no step (log 17). -/
def seqStep (s : State) : Out :=
  if s.fault then .next s
  else
    match fetch s with
    | .error c => if s.ph then .next s else .next (raiseSeqFault c s)
    | .ok i => if s.ph && !blocking i then .next s else exec i s

/-- One step of the agent that moves (00_scope.md R8). -/
def agentStep (m : Move) (s : State) : Out :=
  match m with
  | .seq => seqStep s
  | .clk => .next (clkStep s)
  | .pwm => .next (pwmStep s)
  | .adc ain => .next (adcStep ain s)
  | .btn level => .next (btnStep level s)
  | .isr => .next (isrStep s)
  | .rst level => .next (rstStep level s)

/-- Which agent moves, and the state with that choice taken: the next listed move, or, when none is listed, a free choice
(00_scope.md R8, R9, log 3). -/
def takeMove (s : State) : Move × State :=
  match s.moves with
  | [] => (Config.freeMove s.draws, { s with draws := s.draws + 1 })
  | m :: ms => (m, { s with moves := ms })

/-- The state in which SEQ moves next and issues the word `w`: `w` is in the ROM at PC, nothing is in progress and no
fault stops SEQ (log 12). -/
def placeNext (w : Word) (s : State) : State :=
  { s with
    rom := Memory.place s.rom s.pc w
    moves := .seq :: s.moves
    ph := false
    fault := false
    fcause := .none }

end Sys2Proof.Machine
end

