-- ==== Sys2Proof/Machine/Step.lean ====
section
/-! DEFINITION. One step of the machine: the step of the agent that moves next. -/

namespace Sys2Proof.Machine

/-- One step of L4MC (00_scope.md R8): the agent that moves next takes one atomic step. -/
def step (s : State) : Host.Outcome State Fault Refusal := agentStep (takeMove s).1 (takeMove s).2

/-- The instruction whose bits are `w`, numbered as spec/opcode_table.json numbers them, where the next step runs it
(log 12). -/
def State.withFetchWord (s : State) (nbits w : Nat) : State := placeNext (tableWord nbits w) s

end Sys2Proof.Machine
end

