-- ==== Sys2Proof/Machine/Ports.lean ====
section
/-! DEFINITION. The output ports as functions of the registers (10_state.md R39, 42_motor_ops.md R145, R146,
60_exceptions.md R225) and the motor driver's truth table (R226). -/

namespace Sys2Proof.Machine

/-- The output ports (60_exceptions.md R225). -/
structure Ports where
  adcStart : Bool
  in1 : Bool
  in2 : Bool
  dutyOut : BitVec 10
  pwm : Bool
  seg : BitVec 8
  fault : Bool
  fcause : BitVec 2
  deriving DecidableEq, Repr

/-- `in1 = MEN ∧ CDIR[0]` (42_motor_ops.md R145). -/
def in1 (s : State) : Bool := s.men && s.cdir.code.getLsbD 0

/-- `in2 = MEN ∧ CDIR[1]` (42_motor_ops.md R145). -/
def in2 (s : State) : Bool := s.men && s.cdir.code.getLsbD 1

/-- `duty_out = CDUTY` if MEN = 1, else 0 (42_motor_ops.md R145). -/
def dutyOut (s : State) : BitVec 10 := if s.men then s.cduty else 0

/-- `pwm = 1` if PCNT < `duty_out`, else 0 (42_motor_ops.md R146). -/
def pwmLine (s : State) : Bool := decide (s.pcnt.toNat < (dutyOut s).toNat)

/-- All output ports at an instant (10_state.md R39). -/
def State.ports (s : State) : Ports where
  adcStart := s.adsc
  in1 := in1 s
  in2 := in2 s
  dutyOut := dutyOut s
  pwm := pwmLine s
  seg := s.segout
  fault := s.fault
  fcause := s.fcause.code

/-- What the motor driver, outside L4MC, does (60_exceptions.md R226). -/
inductive DriverAction where
  | brake
  | rotate (d : Direction)
  deriving DecidableEq, Repr

/-- The driver's truth table (60_exceptions.md R226). -/
def driverAction (line1 line2 : Bool) : DriverAction :=
  match line1, line2 with
  | false, false => .brake
  | true, false => .rotate .forward
  | false, true => .rotate .reverse
  | true, true => .brake

end Sys2Proof.Machine
end

