-- ==== Sys2Proof/Safety.lean ====
section
/-! DEFINITION. What claims about L4MC are stated in terms of: runs over moves, the operation at PC, the invariants of
10_state.md R40, the control program's windows (45_control_program.md R199, R200, 70_reset_and_hazards.md R254), display
writes (44_display_ops.md R187), and the fairness premises (70_reset_and_hazards.md R256). -/

namespace Sys2Proof.Machine

/-! ### Runs -/

/-- The state after a move; the state itself if the move answered no next state, which none does. -/
def agentNext (m : Move) (s : State) : State :=
  match agentStep m s with
  | .next t => t
  | .fault _ => s
  | .refused _ => s

/-- The state after a finite list of moves, the first one first. -/
def runMoves : List Move → State → State
  | [], s => s
  | m :: ms, s => runMoves ms (agentNext m s)

/-- The run of an infinite schedule. -/
def runOf (schedule : Nat → Move) (s : State) : Nat → State
  | 0 => s
  | n + 1 => agentNext (schedule n) (runOf schedule s n)

/-- The move is an RST step. -/
def isRst : Move → Bool
  | .rst _ => true
  | .seq | .clk | .pwm | .adc _ | .btn _ | .isr => false

/-- The move is an ADC step. -/
def isAdc : Move → Bool
  | .adc _ => true
  | .seq | .clk | .pwm | .rst _ | .btn _ | .isr => false

/-! ### The operation at PC -/

/-- The operation at PC, if the word there is one. -/
def opAt (s : State) : Option Instr :=
  match fetch s with
  | .ok i => some i
  | .error _ => none

/-- WAIT.US, WAIT.MS, WAIT.10MS, WAIT.1S. -/
def isWait (i : Instr) : Bool :=
  decide (i = .waitUs) || decide (i = .waitMs) || decide (i = .wait10ms) || decide (i = .wait1s)

/-- The operations that hold for TFLAG: WAIT.* and CDRUN. -/
def holdsForTimer (i : Instr) : Bool := isWait i || decide (i = .cdrun)

/-- The operations that hold for a conversion: ADCINIT and SAMPLE. -/
def holdsForAdc (i : Instr) : Bool := decide (i = .adcinit) || decide (i = .sample)

/-- The operation at PC exists and satisfies `f`. -/
def opIs (f : Instr → Bool) (s : State) : Prop := ∃ i, opAt s = some i ∧ f i = true

/-- The move is SEQ's, of an operation that satisfies `f`. -/
def bySeq (f : Instr → Bool) (m : Move) (s : State) : Prop := m = .seq ∧ opIs f s

/-- SEQ has an enabled step (43_control_ops.md R168, 10_state.md R24). -/
def seqEnabled (s : State) : Prop :=
  s.fault = false ∧ (s.ph = false ∨ (opIs holdsForTimer s ∧ s.tflag = true) ∨ (opIs holdsForAdc s ∧ s.adsc = false))

/-! ### Invariants -/

/-- The invariants of 10_state.md R40, (a) to (g), and what the rules keep besides: the bounds of the registers and the
progress of a blocking operation. -/
structure Inv (s : State) : Prop where
  /-- R40 (a). -/
  pendingNeedsEnable : s.ien = false → s.ipend = false
  /-- R40 (b). -/
  idleTimer : s.ph = false → s.trun = false ∧ s.tflag = false
  /-- R40 (c). -/
  runningTimer : s.trun = true → s.ph = true ∧ opIs holdsForTimer s
  /-- R40 (d). -/
  conversion : s.adsc = true → s.ph = true ∧ opIs holdsForAdc s
  /-- R40 (e). -/
  dutyEven : s.cduty.toNat % 2 = 0 ∧ s.cduty.toNat ≤ 1022 ∧ s.cdir.code ≠ 0b11#2
  /-- R40 (f). -/
  brakeZero : s.cdir = .brake → s.cduty = 0
  /-- R40 (g). -/
  faultAtIssue : s.fault = true → s.ph = false
  /-- FCAUSE records a cause exactly while FAULT = 1 (10_state.md R27, 30_encoding.md R92). -/
  causeWithFault : s.fault = true ↔ s.fcause ≠ .none
  /-- PH = 1 only in a blocking operation (10_state.md R24). -/
  holdBlocks : s.ph = true → opIs blocking s
  /-- The timer runs as long as an operation holds for it (40_timer_ops.md R105, R109). -/
  holdTimer : s.ph = true → opIs holdsForTimer s → s.trun = true
  /-- TFLAG is set only while the counter runs (40_timer_ops.md R102, R104). -/
  flagRuns : s.tflag = true → s.trun = true
  /-- The TCU runs one of the three configurations (40_timer_ops.md R103). -/
  runningConfig : s.trun = true → ∃ k, s.tpre = s.params.prescale k ∧ s.tcmp = s.params.thresh k
  /-- The prescaler phase is 0 to TPRE - 1 (10_state.md R20). -/
  phaseBelow : s.trun = true → s.tdiv < s.tpre
  /-- Until TFLAG is set the counter is below the threshold (40_timer_ops.md R102). -/
  countBelow : s.trun = true → s.tflag = false → s.tcnt < s.tcmp
  /-- The widths of the TCU's registers (10_state.md R20). -/
  tcuWidths : s.tcnt < 2 ^ s.params.wCnt ∧ s.tcmp < 2 ^ s.params.wCnt ∧ s.tpre < 2 ^ s.params.preWidth ∧
    s.tdiv < 2 ^ s.params.preWidth
  /-- A holding WAIT uses its kind's configuration and owes one to its kind's count of sub-waits (40_timer_ops.md R105). -/
  waitCount : ∀ k : WaitKind, s.ph = true → opAt s = some k.instr →
    s.wcfg = kindCfg k ∧ 1 ≤ s.wrem.toNat ∧ s.wrem.toNat ≤ (kindCount k).toNat
  /-- While CDRUN holds the digit is 0 to 9 (44_display_ops.md R184). -/
  countdownDigit : s.ph = true → opAt s = some .cdrun → s.cdig.toNat ≤ 9
  /-- ADRES[15:10] = 0 (30_encoding.md R91). -/
  resultAdjusted : s.adres.extractLsb' 10 6 = 0#6
  /-- ADRDY is set only after ADEN (41_adc_ops.md R123). -/
  readyEnabled : s.adrdy = true → s.aden = true
  /-- ADCINIT holds with the converter enabled (41_adc_ops.md R123). -/
  adcinitEnabled : s.ph = true → opAt s = some .adcinit → s.aden = true
  /-- ROM_LEN ≤ 256 (20_memory.md R60). -/
  romFits : Memory.wf s.rom = true

/-- `b` is `a` or its successor in the cycle Idle→Pressed→Released→CooldownActive→Idle (10_state.md R30). -/
def cycleStep (a b : ControllerState) : Prop :=
  b = a ∨ (a = .idle ∧ b = .pressed) ∨ (a = .pressed ∧ b = .released) ∨ (a = .released ∧ b = .cooldownActive) ∨
    (a = .cooldownActive ∧ b = .idle)

/-- What holds in every run of the control program from reset: no fault, PC inside the listing (45_control_program.md
R200), and in which words the interrupt is off, the motor gate closed and STATE known (R199, 70_reset_and_hazards.md
R254). -/
structure ControlInv (s : State) : Prop where
  inv : Inv s
  listing : s.rom = controlRom s.params.settleKind
  noFault : s.fault = false
  inside : s.pc.toNat < 21
  /-- The source is off from the end of IRQ.OFF (0x0E) to the end of IRQ.ON (0x13). -/
  irqOff : 0x0F ≤ s.pc.toNat → s.pc.toNat ≤ 0x13 → s.ien = false
  /-- The gate is closed from the end of MOTOR.OFF (0x0F) to the end of MOTOR.ON (0x12). -/
  gateClosed : 0x10 ≤ s.pc.toNat → s.pc.toNat ≤ 0x12 → s.men = false
  /-- The gate is open in the loop, from the end of MOTINIT on. -/
  gateOpen : 0x03 ≤ s.pc.toNat → (s.pc.toNat ≤ 0x0F ∨ 0x13 ≤ s.pc.toNat) → s.men = true
  /-- STATE is CooldownActive from the taken poll to the end of STIDLE (0x11). -/
  cooling : 0x0E ≤ s.pc.toNat → s.pc.toNat ≤ 0x11 → s.state = .cooldownActive
  /-- STATE is Idle from the end of STIDLE until the interrupt is on again. -/
  cooled : 0x12 ≤ s.pc.toNat → s.pc.toNat ≤ 0x13 → s.state = .idle
  /-- Every SAMPLE of the loop is trusted (70_reset_and_hazards.md R246). -/
  trusted : 0x02 ≤ s.pc.toNat → s.adrdy = true
  /-- Interrupts are enabled globally in the loop. -/
  global : 0x06 ≤ s.pc.toNat → s.gie = true

/-! ### Display writes -/

/-- The pattern a move writes to SEGOUT, if it is a display write, "a step that assigns SEGOUT" (44_display_ops.md R187);
an RST step is not counted (95_test_vectors.md P1). -/
def displayWrite (m : Move) (s : State) : Option (BitVec 8) :=
  if m = .seq ∧ s.fault = false then
    match opAt s with
    | some .dispinit => if s.ph then none else some s.params.segBlank
    | some .dispClr => if s.ph then none else some s.params.segBlank
    | some (.disp d) => if s.ph then none else some (segRead s.params d)
    | some .cdrun =>
      if s.ph then
        if s.tflag then some (if s.cdig = 0 then s.params.segBlank else segRead s.params (s.cdig - 1)) else none
      else some (segRead s.params 9)
    | _ => none
  else none

/-- The display writes along a list of moves. -/
def displayTrace : List Move → State → List (BitVec 8)
  | [], _ => []
  | m :: ms, s => (displayWrite m s).toList ++ displayTrace ms (agentNext m s)

/-- The eleven display writes of a countdown: the patterns of 9 down to 0, then the blank (44_display_ops.md R184). -/
def countdownWrites (p : Params) : List (BitVec 8) :=
  ([9, 8, 7, 6, 5, 4, 3, 2, 1, 0].map fun d => segRead p d) ++ [p.segBlank]

/-! ### Fairness premises (70_reset_and_hazards.md R256) -/

/-- `clk_live`: the CLK agent steps infinitely often. -/
def clkLive (schedule : Nat → Move) : Prop := ∀ n, ∃ k, n ≤ k ∧ schedule k = .clk

/-- `adc_live`: whenever ADSC = 1 the ADC agent eventually steps. -/
def adcLive (schedule : Nat → Move) (s : State) : Prop :=
  ∀ n, (runOf schedule s n).adsc = true → ∃ k, n ≤ k ∧ isAdc (schedule k) = true

/-- `isr_live`: whenever IPEND = 1, IEN = 1 and GIE = 1 stay true, the ISR agent eventually steps. -/
def isrLive (schedule : Nat → Move) (s : State) : Prop :=
  ∀ n, (∀ k, n ≤ k → handlerEnabled (runOf schedule s k) = true) → ∃ k, n ≤ k ∧ schedule k = .isr

/-- `seq_live`: whenever SEQ has an enabled step it eventually takes one. -/
def seqLive (schedule : Nat → Move) (s : State) : Prop :=
  ∀ n, seqEnabled (runOf schedule s n) → ∃ k, n ≤ k ∧ schedule k = .seq

end Sys2Proof.Machine
end

