-- ==== Sys2Proof/Certificates/Slice0/Obligations.lean ====
section
/-! DEFINITION. The statements for the provers, each a closed proposition about the model; OBLIGATIONS.json lists them with
the rules and sections of spec/ they rest on. -/

open Sys2Proof Sys2Proof.Machine

/-- Sample words of every family decode to the operation they stand for. Words of the decoding vectors, at least one of
each opcode group, decode to their operations; illegal ones are rejected. Rests on 95_test_vectors.md section 2.1.
-/
def Obligations.SampleWordsDecode : Prop :=
  decodeWord 0x1000 = .ok .waitUs ∧ decodeWord 0x1300 = .ok .wait1s ∧ decodeWord 0x1800 = .ok .tinit ∧
  decodeWord 0x2100 = .ok .sample ∧ decodeWord 0x3300 = .ok .motorOn ∧ decodeWord 0x4000 = .ok .dispinit ∧
  decodeWord 0x4109 = .ok (.disp 9) ∧ decodeWord 0x5300 = .ok .gieOn ∧ decodeWord 0x6100 = .ok .stidle ∧
  decodeWord 0x72AB = .ok (.bst .released 0xAB) ∧ decodeWord 0x73FF = .ok (.bst .cooldownActive 0xFF) ∧
  decodeWord 0x80FF = .ok (.jmp 0xFF) ∧ decodeWord 0x410A = .error .notADigit ∧
  decodeWord 0x1801 = .error .nonzeroField ∧ decodeWord 0x7400 = .error .unusedSub ∧
  decodeWord 0x9000 = .error .unusedGroup

/-- Decoding an encoded well-formed instruction gives it back. For every well-formed instruction, with every operand
value the encoding admits, the decoder reads it back from its word, and from its two image bytes followed by any
rest, leaving the rest. Rests on 30_encoding.md section 2. -/
def Obligations.DecodeOfEncodeIsIdentity : Prop :=
  ∀ i : Instr, i.wellFormed = true →
    decodeWord (encode i) = .ok i ∧ ∀ rest, decodeBytes (wordBytes (encode i) ++ rest) = .ok (i, rest)

/-- A word that decodes is the encoding of what it decodes to. Whatever a word decodes to is well-formed, encodes back
to that word, and its row of the opcode map is one of the 23 rows and selects the word. Rests on 30_encoding.md
section 2. -/
def Obligations.EncodeOfDecodeIsIdentity : Prop :=
  ∀ (w : Word) (i : Instr), decodeWord w = .ok i →
    i.wellFormed = true ∧ encode i = w ∧ opcodeRow i ∈ opcodeRows ∧ (opcodeRow i).selects w = true

/-- The illegal words are those no row selects, and issuing one raises IllegalOp. A word is rejected by the decoder
exactly when no row of the opcode map selects it, exactly when it is in the list the rule gives field by field;
0x0000 and 0xFFFF are; and the issue of such a word sets FAULT and FCAUSE = IllegalOp and changes nothing else.
States R84. -/
def Obligations.IllegalWordsFaultAtIssue : Prop :=
  (∀ w : Word, ((∃ r, decodeWord w = .error r) ↔ illegalByFields w = true) ∧
    (illegalByFields w = true ↔ ∀ r ∈ opcodeRows, r.selects w = false)) ∧
  illegalByFields 0x0000 = true ∧ illegalByFields 0xFFFF = true ∧
  ∀ (s : State) (w : Word), s.fault = false → s.ph = false → romRead s s.pc = some w → illegalByFields w = true →
    agentStep .seq s = .next { s with fault := true, fcause := .illegalOp }

/-- No word selects two rows of the opcode map. There are 23 rows and no word is selected by two of them (an inference
the spec marks as its own). Rests on 30_encoding.md section 2. -/
def Obligations.OpcodeRowsAreDisjoint : Prop :=
  opcodeRows.length = 23 ∧ opcodeRows.Pairwise fun a b => ∀ w : Word, ¬ (a.selects w = true ∧ b.selects w = true)

/-- A ROM image is read back from its bytes, high byte first. The words of an image's byte stream are the image, each
word gives two bytes, the high one first, the word 0x710B is the bytes 0x71, 0x0B, and a stream that is an image is
the bytes of the words it gives. Rests on 20_memory.md section 2. -/
def Obligations.RomImageBytesRoundTrip : Prop :=
  (∀ rom : List Word, imageWords (imageBytes rom) = some rom) ∧
  (∀ (bytes : List Byte) (rom : List Word), imageWords bytes = some rom → imageBytes rom = bytes) ∧
  (∀ (hi lo : Byte), (bytesWord hi lo).toNat = 256 * hi.toNat + lo.toNat) ∧
  imageBytes [0x710B] = [0x71, 0x0B]

/-- A step is the step of the agent that moves; SEQ's runs the operation decoded at PC. When a move is listed, step is
that agent's step on the state with the move taken; when none is listed, it is the step of the freely chosen agent;
and when SEQ moves with FAULT = 0, PH = 0 and the word at PC decodes to i, step is exec i. The list of moves and the
free choice are the model's (log 3). Rests on 00_scope.md section 5, 43_control_ops.md section 1. -/
def Obligations.StepRunsTheDecodedOperation : Prop :=
  ∀ (s : State) (i : Instr) (w : Word),
    (∀ m ms, s.moves = m :: ms → step s = agentStep m { s with moves := ms }) ∧
    (s.moves = [] → step s = agentStep (Config.freeMove s.draws) { s with draws := s.draws + 1 }) ∧
    (∀ ms, s.moves = .seq :: ms → s.fault = false → s.ph = false → romRead s s.pc = some w → decodeWord w = .ok i →
      step s = exec i { s with moves := ms })

/-- SEQ's step: fetch, decode, issue; the hold-step while PH = 1; none while FAULT = 1. With FAULT = 0 and PH = 0: a PC
at or above ROM_LEN raises FetchOutOfRom, an undecodable word IllegalOp (FAULT and FCAUSE written, nothing else), a
decodable one is issued by exec. With PH = 1 the step is that of the blocking operation at PC. With FAULT = 1 no
step changes anything. States R168. -/
def Obligations.SequencerStep : Prop :=
  ∀ s : State,
    (s.fault = false → s.ph = false → s.rom.length ≤ s.pc.toNat →
      agentStep .seq s = .next { s with fault := true, fcause := .fetchOutOfRom }) ∧
    (∀ w r, s.fault = false → s.ph = false → s.rom[s.pc.toNat]? = some w → decodeWord w = .error r →
      agentStep .seq s = .next { s with fault := true, fcause := .illegalOp }) ∧
    (∀ w i, s.fault = false → s.rom[s.pc.toNat]? = some w → decodeWord w = .ok i → (s.ph = false ∨ blocking i = true) →
      agentStep .seq s = exec i s) ∧
    (s.fault = true → ∀ t, agentStep .seq s = .next t → t = s)

/-- FAULT and FCAUSE are set together, by SEQ only, and stay until reset. A step other than RST keeps FAULT = 1, with
FCAUSE, PC, PH and the motor and display outputs; FAULT goes from 0 to 1 only in a SEQ step, which writes the cause
in the same step; FCAUSE changes in no other step; with FAULT = 1 SEQ changes nothing; and an RST step clears FAULT.
States R27. -/
def Obligations.FaultIsSticky : Prop :=
  ∀ (m : Move) (s t : State), agentStep m s = .next t →
    (isRst m = false → s.fault = true → t.fault = true ∧ t.fcause = s.fcause ∧ t.pc = s.pc ∧ t.ph = s.ph ∧
      in1 t = in1 s ∧ in2 t = in2 s ∧ dutyOut t = dutyOut s ∧ t.segout = s.segout) ∧
    (isRst m = false → s.fault = false → t.fault = true → m = .seq ∧ t.fcause ≠ .none) ∧
    (isRst m = false → t.fcause ≠ s.fcause → s.fault = false ∧ t.fault = true) ∧
    (m = .seq → s.fault = true → t = s) ∧
    (isRst m = true → t.fault = false)

/-- No step of the machine, and no operation in any state, ends in a fault or a refusal of the model. Every state has a
next state under step, and every operation answers a next state in every state; the hardware's own faults are next
states (60_exceptions.md section 1). That a move of an agent without an enabled step and a hold whose condition is
false answer a next state, the same one, is the model's choice (log 4, log 5), as are the next states in states that
no run reaches (log 15, log 16, log 17) and of a DISP term with d > 9 (log 19). Rests on 60_exceptions.md section 1,
00_scope.md section 5. -/
def Obligations.EveryStepAnswersANextState : Prop :=
  (∀ s : State, ∃ t, step s = .next t) ∧ ∀ (i : Instr) (s : State), ∃ t, exec i s = .next t

/-- Only JMP and a taken BST write a PC other than PC and PC + 1. After any operation's step PC is unchanged, or PC + 1
(modulo 256), or the target of a JMP or of a BST whose condition holds; PC stays only while the operation holds, or
in a fault, or at a branch to its own address. Rests on 43_control_ops.md section 1, 10_state.md section 3. -/
def Obligations.OnlyBranchesRedirectPc : Prop :=
  ∀ (i : Instr) (s t : State), exec i s = .next t →
    (t.pc = s.pc ∨ t.pc = s.pc + 1 ∨ (∃ tt, i = .jmp tt ∧ t.pc = tt) ∨
      ∃ c tt, i = .bst c tt ∧ s.state = c ∧ t.pc = tt) ∧
    (t.pc = s.pc → t.ph = true ∨ t.fault = true ∨ i = .jmp s.pc ∨ ∃ c, i = .bst c s.pc ∧ s.state = c)

/-- An operation that holds answers the state it was given. With PH = 1, a WAIT or CDRUN with TFLAG = 0, and an ADCINIT
or SAMPLE with ADSC = 1, answer the same state: how the model renders that SEQ has no step (log 5, DESIGN CHOICE).
Rests on 40_timer_ops.md section 1, 41_adc_ops.md section 2, 44_display_ops.md section 3. -/
def Obligations.HoldAnswersTheSameState : Prop :=
  ∀ s : State, s.ph = true →
    (s.tflag = false → ∀ i ∈ [Instr.waitUs, .waitMs, .wait10ms, .wait1s, .cdrun], exec i s = .next s) ∧
    (s.adsc = true → ∀ i ∈ [Instr.adcinit, .sample], exec i s = .next s)

/-- Every register is changed only by the agents and operations the state table names. If a step other than RST changes
a register, the agent that moved, and for SEQ the operation at PC, is one of the register's writers in the table of
10_state.md. Rests on 10_state.md section 1. -/
def Obligations.EachRegisterHasItsWriters : Prop :=
  ∀ (m : Move) (s t : State), agentStep m s = .next t → isRst m = false →
    (t.pc ≠ s.pc → m = .seq) ∧
    (t.ph ≠ s.ph → bySeq blocking m s) ∧
    (t.wrem ≠ s.wrem → bySeq isWait m s) ∧
    (t.wcfg ≠ s.wcfg → bySeq isWait m s) ∧
    (t.fault ≠ s.fault → m = .seq) ∧
    (t.fcause ≠ s.fcause → m = .seq) ∧
    (t.mag ≠ s.mag → bySeq (fun i => i = .sample) m s) ∧
    (t.aden ≠ s.aden → bySeq (fun i => i = .adcinit) m s) ∧
    (t.adsc ≠ s.adsc → bySeq holdsForAdc m s ∨ isAdc m = true) ∧
    (t.adres ≠ s.adres → isAdc m = true) ∧
    (t.adrdy ≠ s.adrdy → bySeq (fun i => i = .adcinit) m s) ∧
    (t.cdir ≠ s.cdir ∨ t.cduty ≠ s.cduty → bySeq (fun i => i = .motinit ∨ i = .apply) m s) ∧
    (t.men ≠ s.men → bySeq (fun i => i = .motinit ∨ i = .motorOff ∨ i = .motorOn) m s) ∧
    (t.pcnt ≠ s.pcnt → m = .pwm) ∧
    (t.state ≠ s.state → m = .isr ∨ bySeq (fun i => i = .strel ∨ i = .stidle) m s) ∧
    (t.ien ≠ s.ien → bySeq (fun i => i = .irqinit ∨ i = .irqOff ∨ i = .irqOn) m s) ∧
    (t.gie ≠ s.gie → bySeq (fun i => i = .gieOn) m s) ∧
    (t.ipend ≠ s.ipend → (∃ b, m = .btn b ∧ t.ipend = true) ∨ (m = .isr ∧ t.ipend = false) ∨
      (bySeq (fun i => i = .irqinit ∨ i = .irqOff) m s ∧ t.ipend = false)) ∧
    (t.btnq ≠ s.btnq → m = .btn t.btnq) ∧
    (t.trun ≠ s.trun → bySeq (fun i => holdsForTimer i ∨ i = .tinit) m s) ∧
    (t.tpre ≠ s.tpre ∨ t.tcmp ≠ s.tcmp → bySeq holdsForTimer m s) ∧
    (t.tdiv ≠ s.tdiv ∨ t.tcnt ≠ s.tcnt → m = .clk ∨ bySeq (fun i => holdsForTimer i ∨ i = .tinit) m s) ∧
    (t.tflag ≠ s.tflag → (m = .clk ∧ t.tflag = true) ∨
      (bySeq (fun i => holdsForTimer i ∨ i = .tinit) m s ∧ t.tflag = false)) ∧
    (t.cdig ≠ s.cdig → bySeq (fun i => i = .cdrun) m s) ∧
    (t.segout ≠ s.segout →
      bySeq (fun i => i = .dispinit ∨ (∃ d, i = .disp d) ∨ i = .dispClr ∨ i = .cdrun) m s)

/-- No step writes the ROM or the parameters. Every step leaves the ROM, and so the word a fetch sees at every address,
and the parameter set as they are; so does every operation. That the ROM is not written is R74; that the parameters
are not is R9, which makes them no state, with the model's choice to carry them in a field of State that no step
writes (log 1, DESIGN CHOICE). Rests on 20_memory.md section 4, 00_scope.md section 5. -/
def Obligations.RomIsNeverWritten : Prop :=
  (∀ s t : State, step s = .next t → t.rom = s.rom ∧ t.params = s.params ∧ ∀ a, romRead t a = romRead s a) ∧
  ∀ (i : Instr) (s t : State), exec i s = .next t → t.rom = s.rom ∧ t.params = s.params ∧ ∀ a, romRead t a = romRead s a

/-- TINIT turns the timer off and zeroes counter and phase. TINIT is the word 0x1800; in every state it completes with
TRUN, TFLAG, TCNT, TDIV cleared, PC advanced and everything else kept. States R106. -/
def Obligations.TinitResult : Prop :=
  encode .tinit = 0x1800 ∧
  ∀ s : State, exec .tinit s =
    .next { s with trun := false, tflag := false, tcnt := 0, tdiv := 0, pc := s.pc + 1 }

/-- The four WAITs run the wait engine: issue, hold, next sub-wait, complete. For each WAIT with its configuration and
repeat count: the issue sets WCFG, WREM, TPRE, TCMP, TCNT, TDIV, TRUN, PH; with TFLAG = 0 a hold changes nothing;
with TFLAG = 1 and WREM = 1 it completes with the timer off, WREM = 0, PH = 0 and PC advanced; with TFLAG = 1 and
another WREM it counts WREM down and restarts the timer with the flag cleared. Everything else is kept. (WREM = 0
there is reached by no run and its successor is free: log 15.) States R105. -/
def Obligations.WaitEngineSteps : Prop :=
  ∀ (i : Instr) (cfg : TimerCfg) (n : BitVec 4) (s : State),
    (i, cfg, n) ∈ [(Instr.waitUs, TimerCfg.us, 1#4), (.waitMs, .ms, 1#4), (.wait10ms, .ms, 10#4), (.wait1s, .s, 1#4)] →
    (s.ph = false → exec i s =
      .next { s with
        wcfg := cfg, wrem := n, tpre := s.params.prescale cfg, tcmp := s.params.thresh cfg, tcnt := 0, tdiv := 0,
        trun := true, ph := true }) ∧
    (s.ph = true → s.tflag = false → ∀ t, exec i s = .next t → t = s) ∧
    (s.ph = true → s.tflag = true → s.wrem = 1 → exec i s =
      .next { s with tflag := false, trun := false, wrem := 0, ph := false, pc := s.pc + 1 }) ∧
    (s.ph = true → s.tflag = true → s.wrem ≠ 1 → ∃ r : BitVec 4, (s.wrem ≠ 0 → r.toNat = s.wrem.toNat - 1) ∧ exec i s =
      .next { s with
        wrem := r, tflag := false, tpre := s.params.prescale s.wcfg, tcmp := s.params.thresh s.wcfg, tcnt := 0,
        tdiv := 0, trun := true })

/-- The CLK agent's tick. With TRUN = 1 a tick either advances the prescaler phase or, when the phase is at its end,
zeroes it and advances the counter modulo 2^W_CNT, setting TFLAG when the counter becomes TCMP; with TRUN = 0 it
changes nothing. States R102. -/
def Obligations.ClkTick : Prop :=
  ∀ s : State,
    (s.trun = true → s.tdiv + 1 = s.tpre → (s.tcnt + 1) % 2 ^ s.params.wCnt = s.tcmp →
      agentStep .clk s = .next { s with tdiv := 0, tcnt := (s.tcnt + 1) % 2 ^ s.params.wCnt, tflag := true }) ∧
    (s.trun = true → s.tdiv + 1 = s.tpre → (s.tcnt + 1) % 2 ^ s.params.wCnt ≠ s.tcmp →
      agentStep .clk s = .next { s with tdiv := 0, tcnt := (s.tcnt + 1) % 2 ^ s.params.wCnt }) ∧
    (s.trun = true → s.tdiv + 1 ≠ s.tpre → agentStep .clk s = .next { s with tdiv := s.tdiv + 1 }) ∧
    (s.trun = false → agentStep .clk s = .next s)

/-- THRESH is the rounded product of the formula, and a threshold out of range is refused. THRESH[k] is the floor of
T[k] × F_CLK / PRESCALE[k] + 1/2 over the rationals; a set with a threshold below 1 or above 2^W_CNT − 1 is refused;
REF0's three thresholds are 2, 250, 15625. States R101. -/
def Obligations.ThresholdFormula : Prop :=
  (∀ (p : ParamSet) (k : TimerCfg), 0 < p.fClkDen → 0 < p.prescale k →
    (p.thresh k : Int) =
      ⌊((match k with | .us => 1 / 1000000 | .ms => 1 / 1000 | .s => 1 : ℚ) * ((p.fClkNum : ℚ) / (p.fClkDen : ℚ)) /
        (p.prescale k : ℚ)) + 1 / 2⌋) ∧
  (∀ (p : ParamSet) (k : TimerCfg), p.thresh k < 1 ∨ 2 ^ p.wCnt - 1 < p.thresh k → p.check? = none) ∧
  ParamSet.ref0.thresh .us = 2 ∧ ParamSet.ref0.thresh .ms = 250 ∧ ParamSet.ref0.thresh .s = 15625

/-- After TcuStart, TFLAG is set by exactly the PRESCALE × THRESH-th tick. From TcuStart(k) with TFLAG = 0, along any
moves of the agents other than SEQ and RST, with j ticks among them: TFLAG is set exactly when j ≥ PRESCALE[k] ×
THRESH[k], the phase is j modulo PRESCALE[k], and the counter ⌊j / PRESCALE[k]⌋ modulo 2^W_CNT (an inference the
spec marks as its own). Rests on 40_timer_ops.md section 3. -/
def Obligations.TimerFlagAtTheExactTick : Prop :=
  ∀ (s : State) (k : TimerCfg) (ms : List Move), s.tflag = false → (∀ m ∈ ms, m ≠ .seq ∧ isRst m = false) →
    let t := runMoves ms (tcuStart k s)
    t.tflag = decide (s.params.prescale k * s.params.thresh k ≤ ms.count .clk) ∧
    t.tdiv = ms.count .clk % s.params.prescale k ∧
    t.tcnt = (ms.count .clk / s.params.prescale k) % 2 ^ s.params.wCnt

/-- A WAIT lasts at least n × PRESCALE × THRESH ticks, under every schedule. From a state that meets the invariants,
about to issue a WAIT of kind k, along any moves without RST: if PC has moved on, at least n × PRESCALE × THRESH of
them were ticks of clk, n the kind's repeat count (an inference the spec marks as its own). Rests on 40_timer_ops.md
section 3. -/
def Obligations.WaitDurationLowerBound : Prop :=
  ∀ (s : State) (k : WaitKind) (ms : List Move), Inv s → s.fault = false → s.ph = false → opAt s = some k.instr →
    (∀ m ∈ ms, isRst m = false) → (runMoves ms s).pc ≠ s.pc →
    (kindCount k).toNat * (s.params.prescale (kindCfg k) * s.params.thresh (kindCfg k)) ≤ ms.count .clk

/-- A WAIT completes, with the timer off, when each sub-wait gets its ticks and then a SEQ step. Issue, then n times
PRESCALE × THRESH ticks and a SEQ step: the WAIT has completed with PC advanced, PH = 0, WREM = 0, the timer off
with its flag clear, TCNT = THRESH, and everything else as before. Rests on 40_timer_ops.md section 2. -/
def Obligations.WaitCompletesOnAPromptSchedule : Prop :=
  ∀ (s : State) (k : WaitKind), s.fault = false → s.ph = false → s.tflag = false → opAt s = some k.instr →
    let ticks := s.params.prescale (kindCfg k) * s.params.thresh (kindCfg k)
    runMoves (.seq :: (List.replicate (kindCount k).toNat (List.replicate ticks Move.clk ++ [.seq])).flatten) s =
      { s with
        wcfg := kindCfg k, wrem := 0, tpre := s.params.prescale (kindCfg k), tcmp := s.params.thresh (kindCfg k),
        tcnt := s.params.thresh (kindCfg k), tdiv := 0, trun := false, tflag := false, ph := false, pc := s.pc + 1 }

/-- Without ticks a WAIT or CDRUN holds for ever and the outputs stay. While a WAIT or CDRUN holds with TFLAG = 0, along
any moves with neither CLK nor RST among them, it goes on holding at the same PC and the motor and display outputs
keep their values. Rests on 40_timer_ops.md section 3, 70_reset_and_hazards.md section 3. -/
def Obligations.TimedHoldLastsWithoutTicks : Prop :=
  ∀ (s : State) (ms : List Move), s.fault = false → s.ph = true → opIs holdsForTimer s → s.tflag = false →
    (∀ m ∈ ms, m ≠ .clk ∧ isRst m = false) →
    let t := runMoves ms s
    t.ph = true ∧ t.pc = s.pc ∧ t.tflag = false ∧ in1 t = in1 s ∧ in2 t = in2 s ∧ dutyOut t = dutyOut s ∧
      t.segout = s.segout

/-- Under clk_live, adc_live and seq_live every blocking operation completes. From any state that meets the invariants
in which an operation holds with FAULT = 0, on any infinite schedule without RST that meets the three named
premises, a state is reached in which the operation has completed: PH = 0 and PC advanced. Rests on
70_reset_and_hazards.md section 3. -/
def Obligations.EveryHoldEndsUnderFairness : Prop :=
  ∀ (schedule : Nat → Move) (s : State), Inv s → s.fault = false → s.ph = true →
    (∀ n, isRst (schedule n) = false) → clkLive schedule → adcLive schedule s → seqLive schedule s →
    ∃ n, (runOf schedule s n).ph = false ∧ (runOf schedule s n).pc = s.pc + 1

/-- ADCINIT: issue, hold, and completion without a write of MAG. ADCINIT is the word 0x2000: the issue sets ADEN, ADSC,
PH; with ADSC = 1 a hold changes nothing; with ADSC = 0 it completes with ADRDY = 1, PH = 0 and PC advanced.
Everything else, MAG included, is kept. States R123. -/
def Obligations.AdcinitPhases : Prop :=
  encode .adcinit = 0x2000 ∧
  ∀ s : State,
    (s.ph = false → exec .adcinit s = .next { s with aden := true, adsc := true, ph := true }) ∧
    (s.ph = true → s.adsc = true → ∀ t, exec .adcinit s = .next t → t = s) ∧
    (s.ph = true → s.adsc = false → exec .adcinit s = .next { s with adrdy := true, ph := false, pc := s.pc + 1 })

/-- SAMPLE: issue, hold, and completion with MAG from ADRES[9:0]. SAMPLE is the word 0x2100: the issue sets ADSC and PH;
with ADSC = 1 a hold changes nothing; with ADSC = 0 it completes with MAG = ADRES[9:0], which is at most 1023, PH =
0 and PC advanced, whatever ADRDY is. Everything else is kept. States R124. -/
def Obligations.SamplePhases : Prop :=
  encode .sample = 0x2100 ∧
  ∀ s : State,
    (s.ph = false → exec .sample s = .next { s with adsc := true, ph := true }) ∧
    (s.ph = true → s.adsc = true → ∀ t, exec .sample s = .next t → t = s) ∧
    (s.ph = true → s.adsc = false → ∃ m : BitVec 10, m.toNat = s.adres.toNat % 1024 ∧
      exec .sample s = .next { s with mag := m, ph := false, pc := s.pc + 1 })

/-- The ADC agent's step: the environment's code when trusted, any code when not. With ADSC = 1 a completion writes a
10-bit code, zero-extended, to ADRES and clears ADSC; with ADRDY = 1 the code is the environment's, with ADRDY = 0
it is some value; with ADSC = 0 nothing changes. That an untrusted completion counts the model's own counter of
draws up is the model's choice (log 3, log 8, DESIGN CHOICE), and so is that a move with ADSC = 0 answers the same
state (log 4). Rests on 41_adc_ops.md section 1. -/
def Obligations.ConversionCompletion : Prop :=
  ∀ (s : State) (ain : BitVec 10),
    (s.adsc = true → s.adrdy = true → agentStep (.adc ain) s = .next { s with adres := ain.setWidth 16, adsc := false }) ∧
    (s.adsc = true → s.adrdy = false → ∃ v : BitVec 10,
      agentStep (.adc ain) s = .next { s with adres := v.setWidth 16, adsc := false, draws := s.draws + 1 }) ∧
    (s.adsc = false → ∀ t, agentStep (.adc ain) s = .next t → t = s)

/-- SAMPLE then APPLY put the sampled magnitude's command on the motor outputs. With the converter ready, the gate open
and DEADZONE = 0, the words SAMPLE, APPLY at PC, and a completion with code v: after issue, completion, SAMPLE's end
and APPLY the outputs are Reverse with duty (511 − v) × 2 below 511, Forward with duty (v − 512) × 2 above, Brake
with 0 at 511, MAG = v and PC is two further. Rests on 95_test_vectors.md section 1, 41_adc_ops.md section 2,
42_motor_ops.md section 3. -/
def Obligations.SampleAndApplyDriveTheMotor : Prop :=
  ∀ (s : State) (v : BitVec 10), s.fault = false → s.ph = false → s.men = true → s.adrdy = true →
    s.params.deadzone = 0 → romRead s s.pc = some 0x2100 → romRead s (s.pc + 1) = some 0x3100 →
    let t := runMoves [.seq, .adc v, .seq, .seq] s
    t.pc = s.pc + 2 ∧ t.mag = v ∧ in1 t = decide (511 < v.toNat) ∧ in2 t = decide (v.toNat < 511) ∧
      (dutyOut t).toNat = (if v.toNat < 511 then (511 - v.toNat) * 2 else if 511 < v.toNat then (v.toNat - 512) * 2 else 0)

/-- A conversion that never completes holds for ever and the motor keeps its command. While ADCINIT or SAMPLE holds with
ADSC = 1, along any moves with neither ADC nor RST among them, it goes on holding at the same PC and the motor and
display outputs keep their values. Rests on 41_adc_ops.md section 3, 70_reset_and_hazards.md section 3. -/
def Obligations.StuckConversionKeepsTheMotorCommand : Prop :=
  ∀ (s : State) (ms : List Move), s.fault = false → s.ph = true → opIs holdsForAdc s → s.adsc = true →
    (∀ m ∈ ms, isAdc m = false ∧ isRst m = false) →
    let t := runMoves ms s
    t.ph = true ∧ t.pc = s.pc ∧ t.adsc = true ∧ in1 t = in1 s ∧ in2 t = in2 s ∧ dutyOut t = dutyOut s ∧
      t.segout = s.segout

/-- APPLY writes the mapped direction and duty, exactly. APPLY is the word 0x3100; with m = MAG and d = DEADZONE in
mathematical integers: m < 511 − d gives Reverse and (511 − m) × 2, m > 511 + d Forward and (m − 511 − 1) × 2,
otherwise Brake and 0, each duty held by CDUTY without loss; PC is advanced and everything else is kept, also with
MEN = 0. States R135, R142. -/
def Obligations.ApplyResult : Prop :=
  encode .apply = 0x3100 ∧
  ∀ s : State,
    ((s.mag.toNat : Int) < 511 - (s.params.deadzone : Int) → ∃ duty : BitVec 10,
      (duty.toNat : Int) = (511 - (s.mag.toNat : Int)) * 2 ∧
      exec .apply s = .next { s with cdir := .reverse, cduty := duty, pc := s.pc + 1 }) ∧
    ((s.mag.toNat : Int) > 511 + (s.params.deadzone : Int) → ∃ duty : BitVec 10,
      (duty.toNat : Int) = ((s.mag.toNat : Int) - 511 - 1) * 2 ∧
      exec .apply s = .next { s with cdir := .forward, cduty := duty, pc := s.pc + 1 }) ∧
    (¬ (s.mag.toNat : Int) < 511 - (s.params.deadzone : Int) → ¬ (s.mag.toNat : Int) > 511 + (s.params.deadzone : Int) →
      exec .apply s = .next { s with cdir := .brake, cduty := 0, pc := s.pc + 1 })

/-- With DEADZONE = 0 the mapper has the listed values and is strictly monotone on each side. Below 511: Reverse and
(511 − m) × 2, strictly decreasing; above 511: Forward and (m − 512) × 2, strictly increasing; at 511: Brake and 0.
States R137. -/
def Obligations.MapperWithoutDeadzone : Prop :=
  ∀ p : Params, p.deadzone = 0 →
    (∀ m : BitVec 10, m.toNat < 511 →
      (dutyMap p m).1 = .reverse ∧ (dutyMap p m).2.toNat = (511 - m.toNat) * 2) ∧
    (∀ m : BitVec 10, 511 < m.toNat →
      (dutyMap p m).1 = .forward ∧ (dutyMap p m).2.toNat = (m.toNat - 512) * 2) ∧
    dutyMap p 511 = (.brake, 0) ∧
    (∀ m n : BitVec 10, m.toNat < n.toNat → n.toNat < 511 → (dutyMap p n).2.toNat < (dutyMap p m).2.toNat) ∧
    (∀ m n : BitVec 10, 511 < m.toNat → m.toNat < n.toNat → (dutyMap p m).2.toNat < (dutyMap p n).2.toNat)

/-- Every duty is even and at most 1022, and the two branches stay asymmetric by one count. For every parameter set and
magnitude the duty is even and in [0, 1022], so never 1023; with DEADZONE = 0 the codes 510, 511, 512, 513 give
Reverse 2, Brake 0, Forward 0, Forward 2. States R138, R139. -/
def Obligations.DutyRangeAndAsymmetry : Prop :=
  (∀ (p : Params) (m : BitVec 10), (dutyMap p m).2.toNat ≤ 1022 ∧ (dutyMap p m).2.toNat % 2 = 0) ∧
  ∀ p : Params, p.deadzone = 0 →
    dutyMap p 510 = (.reverse, 2) ∧ dutyMap p 511 = (.brake, 0) ∧ dutyMap p 512 = (.forward, 0) ∧
      dutyMap p 513 = (.forward, 2)

/-- An 11-bit unsigned adder computes the mapper. The mapper built with 11-bit unsigned additions and comparisons and no
clamp equals the mapper in mathematical integers, for every parameter set and magnitude (an inference the spec marks
as its own). Rests on 42_motor_ops.md section 1. -/
def Obligations.ElevenBitMapperIsTheMapper : Prop :=
  ∀ (p : Params) (m : BitVec 10), dutyMap11 (BitVec.ofNat 11 p.deadzone) m = dutyMap p m

/-- The Brake band is 511 − d to 511 + d, and the duty formulas do not subtract d. A magnitude maps to Brake exactly in
the band, and then with duty 0; for d ≥ 512 every one does; for d = 511 only 1023 escapes, as Forward 1022; the
first code below the band has duty 2d + 2, the first above 2d (an inference the spec marks as its own). Rests on
42_motor_ops.md section 1. -/
def Obligations.DeadzoneBandIsBrake : Prop :=
  ∀ (p : Params) (m : BitVec 10),
    ((dutyMap p m).1 = .brake ↔ 511 ≤ m.toNat + p.deadzone ∧ m.toNat ≤ 511 + p.deadzone) ∧
    ((dutyMap p m).1 = .brake → (dutyMap p m).2 = 0) ∧
    (512 ≤ p.deadzone → (dutyMap p m).1 = .brake) ∧
    (p.deadzone = 511 → m.toNat ≠ 1023 → (dutyMap p m).1 = .brake) ∧
    (p.deadzone = 511 → dutyMap p 1023 = (.forward, 1022)) ∧
    (m.toNat + p.deadzone = 510 → (dutyMap p m).1 = .reverse ∧ (dutyMap p m).2.toNat = 2 * p.deadzone + 2) ∧
    (m.toNat = 512 + p.deadzone → (dutyMap p m).1 = .forward ∧ (dutyMap p m).2.toNat = 2 * p.deadzone)

/-- MOTINIT opens the gate on a braked command. MOTINIT is the word 0x3000; in every state it completes with CDIR =
Brake, CDUTY = 0, MEN = 1, PC advanced and everything else kept, and the motor outputs are then 0, 0, 0. States
R141. -/
def Obligations.MotinitResult : Prop :=
  encode .motinit = 0x3000 ∧
  ∀ s : State, ∃ t, exec .motinit s = .next t ∧
    t = { s with cdir := .brake, cduty := 0, men := true, pc := s.pc + 1 } ∧
    in1 t = false ∧ in2 t = false ∧ dutyOut t = 0

/-- MOTOR.OFF and MOTOR.ON write the gate alone, and the gate forces or follows the command. In every state `in1` is
high exactly when enabled and Forward, `in2` exactly when enabled and Reverse, `duty_out` is CDUTY when enabled and
0 otherwise; MOTOR.OFF (0x3200) clears MEN, after which all outputs are 0; MOTOR.ON (0x3300) sets MEN, after which
they follow the kept command. PC is advanced and everything else is kept. States R143, R144, R145. -/
def Obligations.MotorGate : Prop :=
  encode .motorOff = 0x3200 ∧ encode .motorOn = 0x3300 ∧
  ∀ s : State,
    (in1 s = true ↔ s.men = true ∧ s.cdir = .forward) ∧ (in2 s = true ↔ s.men = true ∧ s.cdir = .reverse) ∧
    dutyOut s = (if s.men = true then s.cduty else 0) ∧
    (∃ t, exec .motorOff s = .next t ∧ t = { s with men := false, pc := s.pc + 1 } ∧
      in1 t = false ∧ in2 t = false ∧ dutyOut t = 0 ∧ pwmLine t = false) ∧
    ∃ t, exec .motorOn s = .next t ∧ t = { s with men := true, pc := s.pc + 1 } ∧
      (in1 t = true ↔ s.cdir = .forward) ∧ (in2 t = true ↔ s.cdir = .reverse) ∧ dutyOut t = s.cduty

/-- The PWM counter runs modulo 1024 and the line is high for duty_out of every 1024 counts. A PWM tick advances PCNT
modulo 1024 and nothing else; the line is high exactly when PCNT < `duty_out`; over the 1024 counts it is high
`duty_out` times, in every state. Rests on 42_motor_ops.md section 2. -/
def Obligations.PwmGenerator : Prop :=
  ∀ s : State,
    agentStep .pwm s = .next { s with pcnt := BitVec.ofNat 10 ((s.pcnt.toNat + 1) % 1024) } ∧
    (pwmLine s = true ↔ s.pcnt.toNat < (dutyOut s).toNat) ∧
    (List.range 1024).countP (fun n => pwmLine { s with pcnt := BitVec.ofNat 10 n }) = (dutyOut s).toNat

/-- The PWM counter influences nothing but itself and the pwm line. Two states that differ only in PCNT make, under any
move, next states that differ at most in PCNT, and show the same ports but for `pwm`. Rests on 42_motor_ops.md
section 2, 60_exceptions.md section 4. -/
def Obligations.PwmCounterReachesOnlyThePwmLine : Prop :=
  ∀ (m : Move) (s t : State) (x : BitVec 10), agentStep m s = .next t →
    (∃ u, agentStep m { s with pcnt := x } = .next u ∧ { u with pcnt := t.pcnt } = t) ∧
    { (State.ports { s with pcnt := x }) with pwm := pwmLine s } = s.ports

/-- The motor driver brakes or turns as the gate and the direction say; both lines are never high. The driver's truth
table; and in every state L4MC's lines make it rotate in the command's direction exactly when the gate is open and
the direction is not Brake, and never are both high. States R226. -/
def Obligations.DriverFollowsTheOutputs : Prop :=
  driverAction false false = .brake ∧ driverAction true true = .brake ∧
  driverAction true false = .rotate .forward ∧ driverAction false true = .rotate .reverse ∧
  ∀ s : State, ¬ (in1 s = true ∧ in2 s = true) ∧
    (s.men = true → s.cdir ≠ .brake → driverAction (in1 s) (in2 s) = .rotate s.cdir) ∧
    (s.men = false ∨ s.cdir = .brake → driverAction (in1 s) (in2 s) = .brake)

/-- DISPINIT and DISP.CLR blank the display, DISP d shows the digit's pattern. DISPINIT (0x4000) and DISP.CLR (0x4200)
write SEG_BLANK to SEGOUT; DISP d (0x410d), for a digit d, writes SEG[d], which exists; PC is advanced and
everything else, CDIG included, is kept. A word 0x410d with d > 9 raises IllegalOp at issue. States R181, R182,
R183. -/
def Obligations.DisplayWrites : Prop :=
  encode .dispinit = 0x4000 ∧ encode .dispClr = 0x4200 ∧ (∀ d : BitVec 4, encode (.disp d) = 0x4100 + d.setWidth 16) ∧
  ∀ s : State,
    exec .dispinit s = .next { s with segout := s.params.segBlank, pc := s.pc + 1 } ∧
    exec .dispClr s = .next { s with segout := s.params.segBlank, pc := s.pc + 1 } ∧
    (∀ d : BitVec 4, d.toNat ≤ 9 → ∃ p, s.params.seg[d.toNat]? = some p ∧
      exec (.disp d) s = .next { s with segout := p, pc := s.pc + 1 }) ∧
    (∀ d : BitVec 4, 9 < d.toNat → s.fault = false → s.ph = false → romRead s s.pc = some (0x4100 + d.setWidth 16) →
      agentStep .seq s = .next { s with fault := true, fcause := .illegalOp })

/-- CDRUN: issue at 9, a digit fewer at each flag, the blank and completion at 0. CDRUN is the word 0x4300: the issue
sets CDIG = 9, shows SEG[9], starts the timer in configuration S and sets PH; with TFLAG = 0 a hold changes nothing;
with TFLAG = 1 and 0 < CDIG ≤ 9 it shows the next lower digit and restarts the timer with the flag cleared; with
TFLAG = 1 and CDIG = 0 it turns the timer off, blanks the display and completes. Everything else is kept. States
R184. -/
def Obligations.CdrunPhases : Prop :=
  encode .cdrun = 0x4300 ∧
  ∀ s : State,
    (s.ph = false → ∃ p, s.params.seg[9]? = some p ∧ exec .cdrun s =
      .next { s with
        cdig := 9, segout := p, tpre := s.params.prescale .s, tcmp := s.params.thresh .s, tcnt := 0, tdiv := 0,
        trun := true, ph := true }) ∧
    (s.ph = true → s.tflag = false → ∀ t, exec .cdrun s = .next t → t = s) ∧
    (s.ph = true → s.tflag = true → 0 < s.cdig.toNat → s.cdig.toNat ≤ 9 →
      ∃ (d : BitVec 4) (p : BitVec 8), d.toNat = s.cdig.toNat - 1 ∧ s.params.seg[d.toNat]? = some p ∧ exec .cdrun s =
        .next { s with
          cdig := d, segout := p, tflag := false, tpre := s.params.prescale .s, tcmp := s.params.thresh .s, tcnt := 0,
          tdiv := 0, trun := true }) ∧
    (s.ph = true → s.tflag = true → s.cdig = 0 → exec .cdrun s =
      .next { s with
        tflag := false, trun := false, segout := s.params.segBlank, ph := false, pc := s.pc + 1 })

/-- Under every schedule CDRUN makes exactly its ten digit writes, 9 down to 0, and then the blank. From a state that
meets the invariants, about to issue CDRUN, along any moves without RST, for as long as PC has stood at CDRUN before
each of them: the display writes made are an initial part of SEG[9], …, SEG[0], SEG_BLANK, SEGOUT holds the pattern
of the last one (its old value when there is none), and PC has moved on, to the next word with PH = 0, exactly when
all eleven are made (an inference the spec marks as its own). Rests on 44_display_ops.md section 3. -/
def Obligations.CdrunWritesTenDigitsThenTheBlank : Prop :=
  ∀ (s : State) (ms : List Move), Inv s → s.fault = false → s.ph = false → opAt s = some .cdrun →
    (∀ m ∈ ms, isRst m = false) → (∀ k < ms.length, (runMoves (ms.take k) s).pc = s.pc) →
    (runMoves ms s).segout = (displayTrace ms s).getLastD s.segout ∧
    ∃ n ≤ 11, displayTrace ms s = (countdownWrites s.params).take n ∧ ((runMoves ms s).pc ≠ s.pc ↔ n = 11) ∧
      (n = 11 → (runMoves ms s).pc = s.pc + 1 ∧ (runMoves ms s).ph = false)

/-- IRQINIT, IRQ.OFF, IRQ.ON, GIE.ON write the interrupt's enables and pending bit. IRQINIT (0x5000) clears IPEND and
sets IEN; IRQ.OFF (0x5100) clears both; IRQ.ON (0x5200) sets IEN; GIE.ON (0x5300) sets GIE. PC is advanced and
everything else is kept. States R160, R161, R162, R163. -/
def Obligations.InterruptControl : Prop :=
  encode .irqinit = 0x5000 ∧ encode .irqOff = 0x5100 ∧ encode .irqOn = 0x5200 ∧ encode .gieOn = 0x5300 ∧
  ∀ s : State,
    exec .irqinit s = .next { s with ipend := false, ien := true, pc := s.pc + 1 } ∧
    exec .irqOff s = .next { s with ipend := false, ien := false, pc := s.pc + 1 } ∧
    exec .irqOn s = .next { s with ien := true, pc := s.pc + 1 } ∧
    exec .gieOn s = .next { s with gie := true, pc := s.pc + 1 }

/-- STREL makes Pressed→Released, STIDLE CooldownActive→Idle, and neither anything else. STREL (0x6000) in Pressed sets
STATE to Released and in the other three states keeps it; STIDLE (0x6100) in CooldownActive sets it to Idle and in
the other three keeps it. PC is advanced and everything else is kept. States R164, R165. -/
def Obligations.MainLoopTransitions : Prop :=
  encode .strel = 0x6000 ∧ encode .stidle = 0x6100 ∧
  ∀ s : State,
    (s.state = .pressed → exec .strel s = .next { s with state := .released, pc := s.pc + 1 }) ∧
    (s.state ≠ .pressed → exec .strel s = .next { s with pc := s.pc + 1 }) ∧
    (s.state = .cooldownActive → exec .stidle s = .next { s with state := .idle, pc := s.pc + 1 }) ∧
    (s.state ≠ .cooldownActive → exec .stidle s = .next { s with pc := s.pc + 1 })

/-- BST branches when STATE is its operand, JMP always; neither changes anything but PC. BST s, tt is the word 0x7stt,
JMP tt 0x80tt; PC becomes tt when the condition holds (for JMP always) and PC + 1 otherwise; everything else is
kept, and the branch itself raises no fault for any target. States R166, R167. -/
def Obligations.BranchAndJump : Prop :=
  (∀ (c : ControllerState) (tt : Addr),
    (encode (.bst c tt)).toNat = 0x7000 + 0x100 * c.code.toNat + tt.toNat ∧
    (encode (.jmp tt)).toNat = 0x8000 + tt.toNat) ∧
  ∀ (s : State) (c : ControllerState) (tt : Addr),
    (s.state = c → exec (.bst c tt) s = .next { s with pc := tt }) ∧
    (s.state ≠ c → exec (.bst c tt) s = .next { s with pc := s.pc + 1 }) ∧
    exec (.jmp tt) s = .next { s with pc := tt }

/-- The interrupt handler's one step. With IPEND = IEN = GIE = 1 the step clears IPEND and moves Idle to Pressed and
Released to CooldownActive, keeping Pressed and CooldownActive, and writes nothing else; otherwise nothing changes.
States R215. -/
def Obligations.HandlerStep : Prop :=
  ∀ s : State,
    (s.ipend = true → s.ien = true → s.gie = true →
      (s.state = .idle → agentStep .isr s = .next { s with ipend := false, state := .pressed }) ∧
      (s.state = .released → agentStep .isr s = .next { s with ipend := false, state := .cooldownActive }) ∧
      (s.state = .pressed ∨ s.state = .cooldownActive → agentStep .isr s = .next { s with ipend := false })) ∧
    (s.ipend = false ∨ s.ien = false ∨ s.gie = false → ∀ t, agentStep .isr s = .next t → t = s)

/-- The edge detector in each of its three modes. A change of `btn` to b sets IPEND exactly when it is the edge
EDGE_MODE selects and IEN = 1, keeps it otherwise, makes BTNQ = b and writes nothing else; the specified hardware's
mode, at reset, is Rising. States R213. -/
def Obligations.EdgeDetector : Prop :=
  (∀ (s : State) (b : Bool),
    let edge : Prop := match s.params.edgeMode with
      | .rising => s.btnq = false ∧ b = true
      | .falling => s.btnq = true ∧ b = false
      | .anyChange => s.btnq ≠ b
    (edge → s.ien = true → agentStep (.btn b) s = .next { s with ipend := true, btnq := b }) ∧
    (¬ edge ∨ s.ien = false → agentStep (.btn b) s = .next { s with btnq := b })) ∧
  State.reset.params.edgeMode = .rising

/-- STATE moves only in its cycle, each transition by its one writer. A step other than RST keeps STATE or makes one of
four transitions: Idle→Pressed or Released→CooldownActive by the handler, Pressed→Released by SEQ at STREL,
CooldownActive→Idle by SEQ at STIDLE; every state has its own code and every code is a state's. States R30. -/
def Obligations.StateMovesOnlyInItsCycle : Prop :=
  (∀ (m : Move) (s t : State), agentStep m s = .next t → isRst m = false →
    t.state = s.state ∨
    (m = .isr ∧ s.state = .idle ∧ t.state = .pressed) ∨
    (m = .isr ∧ s.state = .released ∧ t.state = .cooldownActive) ∨
    (m = .seq ∧ opAt s = some .strel ∧ s.state = .pressed ∧ t.state = .released) ∨
    (m = .seq ∧ opAt s = some .stidle ∧ s.state = .cooldownActive ∧ t.state = .idle)) ∧
  (∀ c : ControllerState, .ofCode c.code = c) ∧ ∀ b : BitVec 2, (ControllerState.ofCode b).code = b

/-- Between two SEQ steps STATE can only make the handler's move. Along any moves of agents other than SEQ and RST the
pair of STATE before and after is one of (Idle, Idle), (Idle, Pressed), (Pressed, Pressed), (Released, Released),
(Released, CooldownActive), (CooldownActive, CooldownActive) (an inference the spec marks as its own). Rests on
43_control_ops.md section 4. -/
def Obligations.OnlyTheHandlerMovesStateBetweenReads : Prop :=
  ∀ (s : State) (ms : List Move), (∀ m ∈ ms, m ≠ .seq ∧ isRst m = false) →
    (s.state, (runMoves ms s).state) ∈
      [(ControllerState.idle, ControllerState.idle), (.idle, .pressed), (.pressed, .pressed), (.released, .released),
        (.released, .cooldownActive), (.cooldownActive, .cooldownActive)]

/-- Edges while the source is disabled leave no trace, also after it is enabled again. From a state that meets the
invariants with IEN = 0, along any moves of agents other than SEQ and RST, IPEND stays 0 and STATE stays; and after
an IRQ.ON the handler is not enabled. Rests on 70_reset_and_hazards.md section 3, 60_exceptions.md section 2. -/
def Obligations.EdgesWhileDisabledAreLost : Prop :=
  ∀ (s : State) (ms : List Move), Inv s → s.ien = false → (∀ m ∈ ms, m ≠ .seq ∧ isRst m = false) →
    let t := runMoves ms s
    t.ipend = false ∧ t.state = s.state ∧ ∀ u, exec .irqOn t = .next u → handlerEnabled u = false

/-- The registers right after reset. In the reset state, and after an RST step from any state with level b, every
register the table gives a value has it (SEGOUT the blank pattern, BTNQ the level of btn at the release: b, in the
launch state an unknown input); nothing is said of the registers the table leaves unspecified. States R41. -/
def Obligations.ResetRegisters : Prop :=
  ∀ (t : State) (level : Bool),
    ((t = State.reset ∧ level = Config.btnAtReset) ∨ ∃ s, agentStep (.rst level) s = .next t) →
    t.pc = 0 ∧ t.ph = false ∧ t.wrem = 0 ∧ cfgCode t.wcfg = 0 ∧ t.fault = false ∧ t.fcause.code = 0 ∧
    t.aden = false ∧ t.adsc = false ∧ t.adrdy = false ∧ t.cdir.code = 0 ∧ t.cduty = 0 ∧ t.men = false ∧
    t.state = .idle ∧ t.ien = false ∧ t.gie = false ∧ t.ipend = false ∧ t.btnq = level ∧ t.trun = false ∧
    t.tflag = false ∧ t.segout = t.params.segBlank

/-- An RST step resets from any state, forgetting all but ROM, parameters, listed moves and the count of draws. An RST
step answers a next state from every state; it keeps ROM and parameters; and two states with the same ROM,
parameters, moves and number of draws go to the same state, whatever was in progress. That the registers left
unspecified are drawn anew by the count of draws is the model's (log 7, DEDUCED), and so is that the listed moves
and the count survive (log 3, DESIGN CHOICE). Rests on 70_reset_and_hazards.md section 1. -/
def Obligations.ResetStep : Prop :=
  ∀ (s : State) (level : Bool), ∃ t, agentStep (.rst level) s = .next t ∧ t.rom = s.rom ∧ t.params = s.params ∧
    t.moves = s.moves ∧
    ∀ u : State, u.rom = s.rom → u.params = s.params → u.moves = s.moves → u.draws = s.draws →
      agentStep (.rst level) u = .next t

/-- After reset the motor is braked, the display blank, no fault shown, no conversion wanted. In the reset state, and
after an RST step from any state, `in1` = `in2` = 0, `duty_out` = 0, `pwm` = 0 for every PCNT, `seg` = SEG_BLANK,
`fault` = 0, `adc_start` = 0 (an inference the spec marks as its own). Rests on 10_state.md section 9. -/
def Obligations.ResetPorts : Prop :=
  ∀ t : State, (t = State.reset ∨ ∃ s level, agentStep (.rst level) s = .next t) →
    ∀ x : BitVec 10, (State.ports { t with pcnt := x }) =
      { adcStart := false, in1 := false, in2 := false, dutyOut := 0, pwm := false, seg := t.params.segBlank,
        fault := false, fcause := 0 }

/-- The invariants hold at reset. The reset state meets the invariants (a) to (g) of the state file and the model's
bounds. Rests on 10_state.md section 8. -/
def Obligations.InvariantAtReset : Prop :=
  Inv State.reset

/-- Every step keeps the invariants, for any ROM. From every state that meets the invariants (the seven of the state
file, which the spec marks as its own inference, and the model's bounds of registers and progress), a step gives a
state that meets them. Rests on 10_state.md section 8. -/
def Obligations.InvariantKeptByEveryStep : Prop :=
  ∀ s t : State, Inv s → step s = .next t → Inv t

/-- The control program's invariant holds at reset. The reset state, whose ROM is the control program, meets the control
program's invariant. Rests on 45_control_program.md section 1. -/
def Obligations.ControlProgramInvariantAtReset : Prop :=
  ControlInv State.reset

/-- The control program never faults, and its windows hold: interrupt off, gate closed, cooldown. Every step from a
state that meets the control program's invariant gives one that meets it: no fault, PC inside the 21 words, the
interrupt off from IRQ.OFF to IRQ.ON, the motor gate closed from MOTOR.OFF to MOTOR.ON and open in the loop, STATE
CooldownActive through the countdown and Idle after it, the converter ready in the loop. Rests on
45_control_program.md section 2, 70_reset_and_hazards.md section 3, 20_memory.md section 4. -/
def Obligations.ControlProgramInvariantKept : Prop :=
  ∀ s t : State, ControlInv s → step s = .next t → ControlInv t

/-- The control program moves only along the edges of its listing. From a state that meets the control program's
invariant, a step other than RST keeps PC or takes an edge of the listing; the edge into Pressed handling is taken
only in Pressed, the one into CooldownActive handling only in CooldownActive; and from the loop PC never returns to
the boot segment. Rests on 45_control_program.md section 1, 45_control_program.md section 2. -/
def Obligations.ControlProgramFlow : Prop :=
  ∀ (m : Move) (s t : State), ControlInv s → isRst m = false → agentStep m s = .next t →
    (t.pc = s.pc ∨ (s.pc.toNat, t.pc.toNat) ∈
      [(0x00, 0x01), (0x01, 0x02), (0x02, 0x03), (0x03, 0x04), (0x04, 0x05), (0x05, 0x06), (0x06, 0x07), (0x06, 0x0B),
        (0x07, 0x08), (0x07, 0x0E), (0x08, 0x09), (0x09, 0x0A), (0x0A, 0x06), (0x0B, 0x0C), (0x0C, 0x0D), (0x0D, 0x08),
        (0x0E, 0x0F), (0x0F, 0x10), (0x10, 0x11), (0x11, 0x12), (0x12, 0x13), (0x13, 0x14), (0x14, 0x08)]) ∧
    (s.pc = 0x06 → t.pc = 0x0B → s.state = .pressed) ∧ (s.pc = 0x07 → t.pc = 0x0E → s.state = .cooldownActive) ∧
    (0x06 ≤ s.pc.toNat → 0x06 ≤ t.pc.toNat)

/-- Between two display writes of CDRUN at least PRESCALE[S] × THRESH[S] ticks pass, ten times that in all. From a state
that meets the invariants, about to issue CDRUN, along moves without RST: for as long as PC has stood at CDRUN
before each of them, the moves after a display write hold at least PRESCALE[S] × THRESH[S] ticks of clk for each
further display write they make; and when PC has moved on, at least ten times that many of all the moves were ticks
(an inference the spec marks as its own). Rests on 44_display_ops.md section 3, 70_reset_and_hazards.md section 4.
-/
def Obligations.CountdownDurationLowerBound : Prop :=
  ∀ s : State, Inv s → s.fault = false → s.ph = false → opAt s = some .cdrun →
    let interval := s.params.prescale .s * s.params.thresh .s
    (∀ (before : List Move) (m : Move) (later : List Move), (∀ m' ∈ before ++ m :: later, isRst m' = false) →
      (∀ k < (before ++ m :: later).length, (runMoves ((before ++ m :: later).take k) s).pc = s.pc) →
      displayWrite m (runMoves before s) ≠ none →
      (displayTrace later (runMoves (before ++ [m]) s)).length * interval ≤ later.count .clk) ∧
    ∀ ms : List Move, (∀ m ∈ ms, isRst m = false) → (runMoves ms s).pc ≠ s.pc → 10 * interval ≤ ms.count .clk

/-- SEGOUT and the port `seg` hold the last display write. After a step other than RST, SEGOUT is the pattern of the
display write that the step makes, and is kept when it makes none; along any moves without RST, SEGOUT and the port
`seg` are the last pattern of the sequence of display writes, or as before when that is empty. Rests on
44_display_ops.md section 1, 10_state.md section 7. -/
def Obligations.SegoutHoldsTheLastDisplayWrite : Prop :=
  (∀ (m : Move) (s t : State), agentStep m s = .next t → isRst m = false → t.segout = (displayWrite m s).getD s.segout) ∧
  ∀ (s : State) (ms : List Move), (∀ m ∈ ms, isRst m = false) →
    (runMoves ms s).segout = (displayTrace ms s).getLastD s.segout ∧
    (runMoves ms s).ports.seg = (displayTrace ms s).getLastD s.ports.seg
end

