-- ==== Sys2Proof/Laws/Memory.lean ====
section
/-! SUPPORT. The ROM as a memory: its canonical form, and reading a placed word (20_memory.md R60, R61). -/

namespace Sys2Proof.Machine

/-- The control program's ROM has the canonical form, with 21 words. -/
theorem controlRom_length (k : WaitKind) : (controlRom k).length = 21 := rfl

theorem controlRom_wf (k : WaitKind) : Memory.wf (controlRom k) = true := by
  simp [Memory.wf, controlRom_length]

theorem reset_rom_wf : Memory.wf State.reset.rom = true := controlRom_wf _

theorem place_length (rom : List Word) (a : Addr) (w : Word) :
    (Memory.place rom a w).length = max rom.length (a.toNat + 1) := by
  simp [Memory.place]; omega

/-- Placing a word keeps the canonical form. -/
theorem place_wf (rom : List Word) (a : Addr) (w : Word) (h : Memory.wf rom = true) :
    Memory.wf (Memory.place rom a w) = true := by
  have := a.isLt
  simp [Memory.wf, place_length] at *
  omega

/-- Reading a placed word gives it. -/
theorem read_place_same (rom : List Word) (a : Addr) (w : Word) : Memory.read (Memory.place rom a w) a = some w := by
  have hl : a.toNat < (rom ++ List.replicate (a.toNat + 1 - rom.length) 0x0000#16).length := by
    simp; omega
  unfold Memory.read Memory.place
  rw [List.getElem?_set_self hl]

/-- Placing a word leaves every other word of the image alone. -/
theorem read_place_other (rom : List Word) (a b : Addr) (w : Word) (hne : a ≠ b) (hb : b.toNat < rom.length) :
    Memory.read (Memory.place rom a w) b = Memory.read rom b := by
  have hne' : a.toNat ≠ b.toNat := fun h => hne (BitVec.eq_of_toNat_eq h)
  simp [Memory.read, Memory.place, List.getElem?_set_ne hne', List.getElem?_append_left hb]

/-- There is no word at and above ROM_LEN (20_memory.md R61). -/
theorem read_none_iff (rom : List Word) (a : Addr) : Memory.read rom a = none ↔ rom.length ≤ a.toNat := by
  simp [Memory.read]

theorem withFetchWord_wf (s : State) (nbits w : Nat) (h : Memory.wf s.rom = true) :
    Memory.wf (s.withFetchWord nbits w).rom = true := place_wf _ _ _ h

/-- withFetchWord puts the word where the next step fetches. -/
theorem withFetchWord_fetch (s : State) (nbits w : Nat) :
    romRead (s.withFetchWord nbits w) (s.withFetchWord nbits w).pc = some (tableWord nbits w) :=
  read_place_same _ _ _

end Sys2Proof.Machine
end

