-- ==== Sys2Proof/Laws/Params.lean ====
section
/-! SUPPORT. What a well-formed parameter set gives (00_scope.md R7, 40_timer_ops.md R101). -/

namespace Sys2Proof.Machine

/-- Each constraint of a well-formed set, by name. -/
theorem params_constraints (p : Params) :
    p.deadzoneOk = true ∧ p.clockOk = true ∧ p.widthOk = true ∧ (∀ k, p.timerOk k = true) ∧ p.segOk = true ∧
      p.adcBandOk = true ∧ p.pwmOk = true := by
  have h := p.ok
  simp only [ParamSet.wellFormed, Bool.and_eq_true] at h
  obtain ⟨⟨⟨⟨⟨⟨⟨⟨h1, h2⟩, h3⟩, h4⟩, h5⟩, h6⟩, h7⟩, h8⟩, h9⟩ := h
  exact ⟨h1, h2, h3, fun k => by cases k <;> assumption, h7, h8, h9⟩

theorem deadzone_le (p : Params) : p.deadzone ≤ 1023 := by
  simpa [ParamSet.deadzoneOk] using (params_constraints p).1

theorem timer_constraints (p : Params) (k : TimerCfg) :
    1 ≤ p.prescale k ∧ 1 ≤ p.thresh k ∧ p.thresh k ≤ 2 ^ p.wCnt - 1 := by
  have h := (params_constraints p).2.2.2.1 k
  simpa [ParamSet.timerOk, and_assoc] using h

theorem prescale_pos (p : Params) (k : TimerCfg) : 0 < p.prescale k := (timer_constraints p k).1

theorem thresh_pos (p : Params) (k : TimerCfg) : 0 < p.thresh k := (timer_constraints p k).2.1

theorem thresh_lt (p : Params) (k : TimerCfg) : p.thresh k < 2 ^ p.wCnt := by
  have h := (timer_constraints p k).2.2
  have : 0 < 2 ^ p.wCnt := by positivity
  omega

theorem prescale_lt_preWidth (p : Params) (k : TimerCfg) : p.prescale k < 2 ^ p.preWidth := by
  have hle : p.prescale k ≤ max p.prescaleUs (max p.prescaleMs p.prescaleS) := by
    cases k <;> simp [ParamSet.prescale]
  exact lt_of_le_of_lt hle Nat.lt_log2_self

theorem seg_length (p : Params) : p.seg.length = 10 := by
  simpa [ParamSet.segOk] using (params_constraints p).2.2.2.2.1

/-- A digit has an entry of the segment table, and SegRead gives it (20_memory.md R62). -/
theorem segRead_digit (p : Params) (d : BitVec 4) (h : d.toNat ≤ 9) :
    p.seg[d.toNat]? = some (segRead p d) := by
  have hl : d.toNat < p.seg.length := by rw [seg_length]; omega
  simp [segRead, List.getElem?_eq_getElem hl]

/-- An ill-formed set is refused (00_scope.md R7). -/
theorem check?_eq_none {p : ParamSet} (h : p.wellFormed = false) : p.check? = none := by
  simp [ParamSet.check?, h]

/-- The specified hardware's dead zone and edge mode (92_eei_decisions.md D9, D22). -/
theorem config_params_fixed : Config.params.deadzone = 0 ∧ Config.params.edgeMode = .rising := by
  unfold Config.params ParamSet.check?
  split
  · exact ⟨rfl, rfl⟩
  · exact ⟨rfl, rfl⟩

end Sys2Proof.Machine
end

