-- ==== Sys2Proof/Laws/State.lean ====
section
/-! SUPPORT. One lemma per field per update of the shared operations, true by rfl, so that no proof unfolds a record
update. -/

namespace Sys2Proof.Machine

/-! ### goTo -/

@[simp] theorem goTo_pc (t : Addr) (s : State) : (goTo t s).pc = t := rfl
@[simp] theorem goTo_ph (t : Addr) (s : State) : (goTo t s).ph = s.ph := rfl
@[simp] theorem goTo_wrem (t : Addr) (s : State) : (goTo t s).wrem = s.wrem := rfl
@[simp] theorem goTo_wcfg (t : Addr) (s : State) : (goTo t s).wcfg = s.wcfg := rfl
@[simp] theorem goTo_fault (t : Addr) (s : State) : (goTo t s).fault = s.fault := rfl
@[simp] theorem goTo_fcause (t : Addr) (s : State) : (goTo t s).fcause = s.fcause := rfl
@[simp] theorem goTo_mag (t : Addr) (s : State) : (goTo t s).mag = s.mag := rfl
@[simp] theorem goTo_aden (t : Addr) (s : State) : (goTo t s).aden = s.aden := rfl
@[simp] theorem goTo_adsc (t : Addr) (s : State) : (goTo t s).adsc = s.adsc := rfl
@[simp] theorem goTo_adres (t : Addr) (s : State) : (goTo t s).adres = s.adres := rfl
@[simp] theorem goTo_adrdy (t : Addr) (s : State) : (goTo t s).adrdy = s.adrdy := rfl
@[simp] theorem goTo_cdir (t : Addr) (s : State) : (goTo t s).cdir = s.cdir := rfl
@[simp] theorem goTo_cduty (t : Addr) (s : State) : (goTo t s).cduty = s.cduty := rfl
@[simp] theorem goTo_men (t : Addr) (s : State) : (goTo t s).men = s.men := rfl
@[simp] theorem goTo_pcnt (t : Addr) (s : State) : (goTo t s).pcnt = s.pcnt := rfl
@[simp] theorem goTo_state (t : Addr) (s : State) : (goTo t s).state = s.state := rfl
@[simp] theorem goTo_ien (t : Addr) (s : State) : (goTo t s).ien = s.ien := rfl
@[simp] theorem goTo_gie (t : Addr) (s : State) : (goTo t s).gie = s.gie := rfl
@[simp] theorem goTo_ipend (t : Addr) (s : State) : (goTo t s).ipend = s.ipend := rfl
@[simp] theorem goTo_btnq (t : Addr) (s : State) : (goTo t s).btnq = s.btnq := rfl
@[simp] theorem goTo_trun (t : Addr) (s : State) : (goTo t s).trun = s.trun := rfl
@[simp] theorem goTo_tpre (t : Addr) (s : State) : (goTo t s).tpre = s.tpre := rfl
@[simp] theorem goTo_tdiv (t : Addr) (s : State) : (goTo t s).tdiv = s.tdiv := rfl
@[simp] theorem goTo_tcnt (t : Addr) (s : State) : (goTo t s).tcnt = s.tcnt := rfl
@[simp] theorem goTo_tcmp (t : Addr) (s : State) : (goTo t s).tcmp = s.tcmp := rfl
@[simp] theorem goTo_tflag (t : Addr) (s : State) : (goTo t s).tflag = s.tflag := rfl
@[simp] theorem goTo_cdig (t : Addr) (s : State) : (goTo t s).cdig = s.cdig := rfl
@[simp] theorem goTo_segout (t : Addr) (s : State) : (goTo t s).segout = s.segout := rfl
@[simp] theorem goTo_params (t : Addr) (s : State) : (goTo t s).params = s.params := rfl
@[simp] theorem goTo_rom (t : Addr) (s : State) : (goTo t s).rom = s.rom := rfl
@[simp] theorem goTo_moves (t : Addr) (s : State) : (goTo t s).moves = s.moves := rfl
@[simp] theorem goTo_draws (t : Addr) (s : State) : (goTo t s).draws = s.draws := rfl

/-! ### advance -/

@[simp] theorem advance_pc (s : State) : (advance s).pc = s.pc + 1 := rfl
@[simp] theorem advance_ph (s : State) : (advance s).ph = s.ph := rfl
@[simp] theorem advance_wrem (s : State) : (advance s).wrem = s.wrem := rfl
@[simp] theorem advance_wcfg (s : State) : (advance s).wcfg = s.wcfg := rfl
@[simp] theorem advance_fault (s : State) : (advance s).fault = s.fault := rfl
@[simp] theorem advance_fcause (s : State) : (advance s).fcause = s.fcause := rfl
@[simp] theorem advance_mag (s : State) : (advance s).mag = s.mag := rfl
@[simp] theorem advance_aden (s : State) : (advance s).aden = s.aden := rfl
@[simp] theorem advance_adsc (s : State) : (advance s).adsc = s.adsc := rfl
@[simp] theorem advance_adres (s : State) : (advance s).adres = s.adres := rfl
@[simp] theorem advance_adrdy (s : State) : (advance s).adrdy = s.adrdy := rfl
@[simp] theorem advance_cdir (s : State) : (advance s).cdir = s.cdir := rfl
@[simp] theorem advance_cduty (s : State) : (advance s).cduty = s.cduty := rfl
@[simp] theorem advance_men (s : State) : (advance s).men = s.men := rfl
@[simp] theorem advance_pcnt (s : State) : (advance s).pcnt = s.pcnt := rfl
@[simp] theorem advance_state (s : State) : (advance s).state = s.state := rfl
@[simp] theorem advance_ien (s : State) : (advance s).ien = s.ien := rfl
@[simp] theorem advance_gie (s : State) : (advance s).gie = s.gie := rfl
@[simp] theorem advance_ipend (s : State) : (advance s).ipend = s.ipend := rfl
@[simp] theorem advance_btnq (s : State) : (advance s).btnq = s.btnq := rfl
@[simp] theorem advance_trun (s : State) : (advance s).trun = s.trun := rfl
@[simp] theorem advance_tpre (s : State) : (advance s).tpre = s.tpre := rfl
@[simp] theorem advance_tdiv (s : State) : (advance s).tdiv = s.tdiv := rfl
@[simp] theorem advance_tcnt (s : State) : (advance s).tcnt = s.tcnt := rfl
@[simp] theorem advance_tcmp (s : State) : (advance s).tcmp = s.tcmp := rfl
@[simp] theorem advance_tflag (s : State) : (advance s).tflag = s.tflag := rfl
@[simp] theorem advance_cdig (s : State) : (advance s).cdig = s.cdig := rfl
@[simp] theorem advance_segout (s : State) : (advance s).segout = s.segout := rfl
@[simp] theorem advance_params (s : State) : (advance s).params = s.params := rfl
@[simp] theorem advance_rom (s : State) : (advance s).rom = s.rom := rfl
@[simp] theorem advance_moves (s : State) : (advance s).moves = s.moves := rfl
@[simp] theorem advance_draws (s : State) : (advance s).draws = s.draws := rfl

/-! ### beginHold -/

@[simp] theorem beginHold_pc (s : State) : (beginHold s).pc = s.pc := rfl
@[simp] theorem beginHold_ph (s : State) : (beginHold s).ph = true := rfl
@[simp] theorem beginHold_wrem (s : State) : (beginHold s).wrem = s.wrem := rfl
@[simp] theorem beginHold_wcfg (s : State) : (beginHold s).wcfg = s.wcfg := rfl
@[simp] theorem beginHold_fault (s : State) : (beginHold s).fault = s.fault := rfl
@[simp] theorem beginHold_fcause (s : State) : (beginHold s).fcause = s.fcause := rfl
@[simp] theorem beginHold_mag (s : State) : (beginHold s).mag = s.mag := rfl
@[simp] theorem beginHold_aden (s : State) : (beginHold s).aden = s.aden := rfl
@[simp] theorem beginHold_adsc (s : State) : (beginHold s).adsc = s.adsc := rfl
@[simp] theorem beginHold_adres (s : State) : (beginHold s).adres = s.adres := rfl
@[simp] theorem beginHold_adrdy (s : State) : (beginHold s).adrdy = s.adrdy := rfl
@[simp] theorem beginHold_cdir (s : State) : (beginHold s).cdir = s.cdir := rfl
@[simp] theorem beginHold_cduty (s : State) : (beginHold s).cduty = s.cduty := rfl
@[simp] theorem beginHold_men (s : State) : (beginHold s).men = s.men := rfl
@[simp] theorem beginHold_pcnt (s : State) : (beginHold s).pcnt = s.pcnt := rfl
@[simp] theorem beginHold_state (s : State) : (beginHold s).state = s.state := rfl
@[simp] theorem beginHold_ien (s : State) : (beginHold s).ien = s.ien := rfl
@[simp] theorem beginHold_gie (s : State) : (beginHold s).gie = s.gie := rfl
@[simp] theorem beginHold_ipend (s : State) : (beginHold s).ipend = s.ipend := rfl
@[simp] theorem beginHold_btnq (s : State) : (beginHold s).btnq = s.btnq := rfl
@[simp] theorem beginHold_trun (s : State) : (beginHold s).trun = s.trun := rfl
@[simp] theorem beginHold_tpre (s : State) : (beginHold s).tpre = s.tpre := rfl
@[simp] theorem beginHold_tdiv (s : State) : (beginHold s).tdiv = s.tdiv := rfl
@[simp] theorem beginHold_tcnt (s : State) : (beginHold s).tcnt = s.tcnt := rfl
@[simp] theorem beginHold_tcmp (s : State) : (beginHold s).tcmp = s.tcmp := rfl
@[simp] theorem beginHold_tflag (s : State) : (beginHold s).tflag = s.tflag := rfl
@[simp] theorem beginHold_cdig (s : State) : (beginHold s).cdig = s.cdig := rfl
@[simp] theorem beginHold_segout (s : State) : (beginHold s).segout = s.segout := rfl
@[simp] theorem beginHold_params (s : State) : (beginHold s).params = s.params := rfl
@[simp] theorem beginHold_rom (s : State) : (beginHold s).rom = s.rom := rfl
@[simp] theorem beginHold_moves (s : State) : (beginHold s).moves = s.moves := rfl
@[simp] theorem beginHold_draws (s : State) : (beginHold s).draws = s.draws := rfl

/-! ### endHold -/

@[simp] theorem endHold_pc (s : State) : (endHold s).pc = s.pc + 1 := rfl
@[simp] theorem endHold_ph (s : State) : (endHold s).ph = false := rfl
@[simp] theorem endHold_wrem (s : State) : (endHold s).wrem = s.wrem := rfl
@[simp] theorem endHold_wcfg (s : State) : (endHold s).wcfg = s.wcfg := rfl
@[simp] theorem endHold_fault (s : State) : (endHold s).fault = s.fault := rfl
@[simp] theorem endHold_fcause (s : State) : (endHold s).fcause = s.fcause := rfl
@[simp] theorem endHold_mag (s : State) : (endHold s).mag = s.mag := rfl
@[simp] theorem endHold_aden (s : State) : (endHold s).aden = s.aden := rfl
@[simp] theorem endHold_adsc (s : State) : (endHold s).adsc = s.adsc := rfl
@[simp] theorem endHold_adres (s : State) : (endHold s).adres = s.adres := rfl
@[simp] theorem endHold_adrdy (s : State) : (endHold s).adrdy = s.adrdy := rfl
@[simp] theorem endHold_cdir (s : State) : (endHold s).cdir = s.cdir := rfl
@[simp] theorem endHold_cduty (s : State) : (endHold s).cduty = s.cduty := rfl
@[simp] theorem endHold_men (s : State) : (endHold s).men = s.men := rfl
@[simp] theorem endHold_pcnt (s : State) : (endHold s).pcnt = s.pcnt := rfl
@[simp] theorem endHold_state (s : State) : (endHold s).state = s.state := rfl
@[simp] theorem endHold_ien (s : State) : (endHold s).ien = s.ien := rfl
@[simp] theorem endHold_gie (s : State) : (endHold s).gie = s.gie := rfl
@[simp] theorem endHold_ipend (s : State) : (endHold s).ipend = s.ipend := rfl
@[simp] theorem endHold_btnq (s : State) : (endHold s).btnq = s.btnq := rfl
@[simp] theorem endHold_trun (s : State) : (endHold s).trun = s.trun := rfl
@[simp] theorem endHold_tpre (s : State) : (endHold s).tpre = s.tpre := rfl
@[simp] theorem endHold_tdiv (s : State) : (endHold s).tdiv = s.tdiv := rfl
@[simp] theorem endHold_tcnt (s : State) : (endHold s).tcnt = s.tcnt := rfl
@[simp] theorem endHold_tcmp (s : State) : (endHold s).tcmp = s.tcmp := rfl
@[simp] theorem endHold_tflag (s : State) : (endHold s).tflag = s.tflag := rfl
@[simp] theorem endHold_cdig (s : State) : (endHold s).cdig = s.cdig := rfl
@[simp] theorem endHold_segout (s : State) : (endHold s).segout = s.segout := rfl
@[simp] theorem endHold_params (s : State) : (endHold s).params = s.params := rfl
@[simp] theorem endHold_rom (s : State) : (endHold s).rom = s.rom := rfl
@[simp] theorem endHold_moves (s : State) : (endHold s).moves = s.moves := rfl
@[simp] theorem endHold_draws (s : State) : (endHold s).draws = s.draws := rfl

/-! ### tcuStart -/

@[simp] theorem tcuStart_pc (k : TimerCfg) (s : State) : (tcuStart k s).pc = s.pc := rfl
@[simp] theorem tcuStart_ph (k : TimerCfg) (s : State) : (tcuStart k s).ph = s.ph := rfl
@[simp] theorem tcuStart_wrem (k : TimerCfg) (s : State) : (tcuStart k s).wrem = s.wrem := rfl
@[simp] theorem tcuStart_wcfg (k : TimerCfg) (s : State) : (tcuStart k s).wcfg = s.wcfg := rfl
@[simp] theorem tcuStart_fault (k : TimerCfg) (s : State) : (tcuStart k s).fault = s.fault := rfl
@[simp] theorem tcuStart_fcause (k : TimerCfg) (s : State) : (tcuStart k s).fcause = s.fcause := rfl
@[simp] theorem tcuStart_mag (k : TimerCfg) (s : State) : (tcuStart k s).mag = s.mag := rfl
@[simp] theorem tcuStart_aden (k : TimerCfg) (s : State) : (tcuStart k s).aden = s.aden := rfl
@[simp] theorem tcuStart_adsc (k : TimerCfg) (s : State) : (tcuStart k s).adsc = s.adsc := rfl
@[simp] theorem tcuStart_adres (k : TimerCfg) (s : State) : (tcuStart k s).adres = s.adres := rfl
@[simp] theorem tcuStart_adrdy (k : TimerCfg) (s : State) : (tcuStart k s).adrdy = s.adrdy := rfl
@[simp] theorem tcuStart_cdir (k : TimerCfg) (s : State) : (tcuStart k s).cdir = s.cdir := rfl
@[simp] theorem tcuStart_cduty (k : TimerCfg) (s : State) : (tcuStart k s).cduty = s.cduty := rfl
@[simp] theorem tcuStart_men (k : TimerCfg) (s : State) : (tcuStart k s).men = s.men := rfl
@[simp] theorem tcuStart_pcnt (k : TimerCfg) (s : State) : (tcuStart k s).pcnt = s.pcnt := rfl
@[simp] theorem tcuStart_state (k : TimerCfg) (s : State) : (tcuStart k s).state = s.state := rfl
@[simp] theorem tcuStart_ien (k : TimerCfg) (s : State) : (tcuStart k s).ien = s.ien := rfl
@[simp] theorem tcuStart_gie (k : TimerCfg) (s : State) : (tcuStart k s).gie = s.gie := rfl
@[simp] theorem tcuStart_ipend (k : TimerCfg) (s : State) : (tcuStart k s).ipend = s.ipend := rfl
@[simp] theorem tcuStart_btnq (k : TimerCfg) (s : State) : (tcuStart k s).btnq = s.btnq := rfl
@[simp] theorem tcuStart_trun (k : TimerCfg) (s : State) : (tcuStart k s).trun = true := rfl
@[simp] theorem tcuStart_tpre (k : TimerCfg) (s : State) : (tcuStart k s).tpre = s.params.prescale k := rfl
@[simp] theorem tcuStart_tdiv (k : TimerCfg) (s : State) : (tcuStart k s).tdiv = 0 := rfl
@[simp] theorem tcuStart_tcnt (k : TimerCfg) (s : State) : (tcuStart k s).tcnt = 0 := rfl
@[simp] theorem tcuStart_tcmp (k : TimerCfg) (s : State) : (tcuStart k s).tcmp = s.params.thresh k := rfl
@[simp] theorem tcuStart_tflag (k : TimerCfg) (s : State) : (tcuStart k s).tflag = s.tflag := rfl
@[simp] theorem tcuStart_cdig (k : TimerCfg) (s : State) : (tcuStart k s).cdig = s.cdig := rfl
@[simp] theorem tcuStart_segout (k : TimerCfg) (s : State) : (tcuStart k s).segout = s.segout := rfl
@[simp] theorem tcuStart_params (k : TimerCfg) (s : State) : (tcuStart k s).params = s.params := rfl
@[simp] theorem tcuStart_rom (k : TimerCfg) (s : State) : (tcuStart k s).rom = s.rom := rfl
@[simp] theorem tcuStart_moves (k : TimerCfg) (s : State) : (tcuStart k s).moves = s.moves := rfl
@[simp] theorem tcuStart_draws (k : TimerCfg) (s : State) : (tcuStart k s).draws = s.draws := rfl

/-! ### tcuStop -/

@[simp] theorem tcuStop_pc (s : State) : (tcuStop s).pc = s.pc := rfl
@[simp] theorem tcuStop_ph (s : State) : (tcuStop s).ph = s.ph := rfl
@[simp] theorem tcuStop_wrem (s : State) : (tcuStop s).wrem = s.wrem := rfl
@[simp] theorem tcuStop_wcfg (s : State) : (tcuStop s).wcfg = s.wcfg := rfl
@[simp] theorem tcuStop_fault (s : State) : (tcuStop s).fault = s.fault := rfl
@[simp] theorem tcuStop_fcause (s : State) : (tcuStop s).fcause = s.fcause := rfl
@[simp] theorem tcuStop_mag (s : State) : (tcuStop s).mag = s.mag := rfl
@[simp] theorem tcuStop_aden (s : State) : (tcuStop s).aden = s.aden := rfl
@[simp] theorem tcuStop_adsc (s : State) : (tcuStop s).adsc = s.adsc := rfl
@[simp] theorem tcuStop_adres (s : State) : (tcuStop s).adres = s.adres := rfl
@[simp] theorem tcuStop_adrdy (s : State) : (tcuStop s).adrdy = s.adrdy := rfl
@[simp] theorem tcuStop_cdir (s : State) : (tcuStop s).cdir = s.cdir := rfl
@[simp] theorem tcuStop_cduty (s : State) : (tcuStop s).cduty = s.cduty := rfl
@[simp] theorem tcuStop_men (s : State) : (tcuStop s).men = s.men := rfl
@[simp] theorem tcuStop_pcnt (s : State) : (tcuStop s).pcnt = s.pcnt := rfl
@[simp] theorem tcuStop_state (s : State) : (tcuStop s).state = s.state := rfl
@[simp] theorem tcuStop_ien (s : State) : (tcuStop s).ien = s.ien := rfl
@[simp] theorem tcuStop_gie (s : State) : (tcuStop s).gie = s.gie := rfl
@[simp] theorem tcuStop_ipend (s : State) : (tcuStop s).ipend = s.ipend := rfl
@[simp] theorem tcuStop_btnq (s : State) : (tcuStop s).btnq = s.btnq := rfl
@[simp] theorem tcuStop_trun (s : State) : (tcuStop s).trun = false := rfl
@[simp] theorem tcuStop_tpre (s : State) : (tcuStop s).tpre = s.tpre := rfl
@[simp] theorem tcuStop_tdiv (s : State) : (tcuStop s).tdiv = s.tdiv := rfl
@[simp] theorem tcuStop_tcnt (s : State) : (tcuStop s).tcnt = s.tcnt := rfl
@[simp] theorem tcuStop_tcmp (s : State) : (tcuStop s).tcmp = s.tcmp := rfl
@[simp] theorem tcuStop_tflag (s : State) : (tcuStop s).tflag = false := rfl
@[simp] theorem tcuStop_cdig (s : State) : (tcuStop s).cdig = s.cdig := rfl
@[simp] theorem tcuStop_segout (s : State) : (tcuStop s).segout = s.segout := rfl
@[simp] theorem tcuStop_params (s : State) : (tcuStop s).params = s.params := rfl
@[simp] theorem tcuStop_rom (s : State) : (tcuStop s).rom = s.rom := rfl
@[simp] theorem tcuStop_moves (s : State) : (tcuStop s).moves = s.moves := rfl
@[simp] theorem tcuStop_draws (s : State) : (tcuStop s).draws = s.draws := rfl

/-! ### tcuRestart -/

@[simp] theorem tcuRestart_pc (k : TimerCfg) (s : State) : (tcuRestart k s).pc = s.pc := rfl
@[simp] theorem tcuRestart_ph (k : TimerCfg) (s : State) : (tcuRestart k s).ph = s.ph := rfl
@[simp] theorem tcuRestart_wrem (k : TimerCfg) (s : State) : (tcuRestart k s).wrem = s.wrem := rfl
@[simp] theorem tcuRestart_wcfg (k : TimerCfg) (s : State) : (tcuRestart k s).wcfg = s.wcfg := rfl
@[simp] theorem tcuRestart_fault (k : TimerCfg) (s : State) : (tcuRestart k s).fault = s.fault := rfl
@[simp] theorem tcuRestart_fcause (k : TimerCfg) (s : State) : (tcuRestart k s).fcause = s.fcause := rfl
@[simp] theorem tcuRestart_mag (k : TimerCfg) (s : State) : (tcuRestart k s).mag = s.mag := rfl
@[simp] theorem tcuRestart_aden (k : TimerCfg) (s : State) : (tcuRestart k s).aden = s.aden := rfl
@[simp] theorem tcuRestart_adsc (k : TimerCfg) (s : State) : (tcuRestart k s).adsc = s.adsc := rfl
@[simp] theorem tcuRestart_adres (k : TimerCfg) (s : State) : (tcuRestart k s).adres = s.adres := rfl
@[simp] theorem tcuRestart_adrdy (k : TimerCfg) (s : State) : (tcuRestart k s).adrdy = s.adrdy := rfl
@[simp] theorem tcuRestart_cdir (k : TimerCfg) (s : State) : (tcuRestart k s).cdir = s.cdir := rfl
@[simp] theorem tcuRestart_cduty (k : TimerCfg) (s : State) : (tcuRestart k s).cduty = s.cduty := rfl
@[simp] theorem tcuRestart_men (k : TimerCfg) (s : State) : (tcuRestart k s).men = s.men := rfl
@[simp] theorem tcuRestart_pcnt (k : TimerCfg) (s : State) : (tcuRestart k s).pcnt = s.pcnt := rfl
@[simp] theorem tcuRestart_state (k : TimerCfg) (s : State) : (tcuRestart k s).state = s.state := rfl
@[simp] theorem tcuRestart_ien (k : TimerCfg) (s : State) : (tcuRestart k s).ien = s.ien := rfl
@[simp] theorem tcuRestart_gie (k : TimerCfg) (s : State) : (tcuRestart k s).gie = s.gie := rfl
@[simp] theorem tcuRestart_ipend (k : TimerCfg) (s : State) : (tcuRestart k s).ipend = s.ipend := rfl
@[simp] theorem tcuRestart_btnq (k : TimerCfg) (s : State) : (tcuRestart k s).btnq = s.btnq := rfl
@[simp] theorem tcuRestart_trun (k : TimerCfg) (s : State) : (tcuRestart k s).trun = true := rfl
@[simp] theorem tcuRestart_tpre (k : TimerCfg) (s : State) : (tcuRestart k s).tpre = s.params.prescale k := rfl
@[simp] theorem tcuRestart_tdiv (k : TimerCfg) (s : State) : (tcuRestart k s).tdiv = 0 := rfl
@[simp] theorem tcuRestart_tcnt (k : TimerCfg) (s : State) : (tcuRestart k s).tcnt = 0 := rfl
@[simp] theorem tcuRestart_tcmp (k : TimerCfg) (s : State) : (tcuRestart k s).tcmp = s.params.thresh k := rfl
@[simp] theorem tcuRestart_tflag (k : TimerCfg) (s : State) : (tcuRestart k s).tflag = false := rfl
@[simp] theorem tcuRestart_cdig (k : TimerCfg) (s : State) : (tcuRestart k s).cdig = s.cdig := rfl
@[simp] theorem tcuRestart_segout (k : TimerCfg) (s : State) : (tcuRestart k s).segout = s.segout := rfl
@[simp] theorem tcuRestart_params (k : TimerCfg) (s : State) : (tcuRestart k s).params = s.params := rfl
@[simp] theorem tcuRestart_rom (k : TimerCfg) (s : State) : (tcuRestart k s).rom = s.rom := rfl
@[simp] theorem tcuRestart_moves (k : TimerCfg) (s : State) : (tcuRestart k s).moves = s.moves := rfl
@[simp] theorem tcuRestart_draws (k : TimerCfg) (s : State) : (tcuRestart k s).draws = s.draws := rfl

/-! ### raiseSeqFault -/

@[simp] theorem raiseSeqFault_pc (c : FaultCause) (s : State) : (raiseSeqFault c s).pc = s.pc := rfl
@[simp] theorem raiseSeqFault_ph (c : FaultCause) (s : State) : (raiseSeqFault c s).ph = s.ph := rfl
@[simp] theorem raiseSeqFault_wrem (c : FaultCause) (s : State) : (raiseSeqFault c s).wrem = s.wrem := rfl
@[simp] theorem raiseSeqFault_wcfg (c : FaultCause) (s : State) : (raiseSeqFault c s).wcfg = s.wcfg := rfl
@[simp] theorem raiseSeqFault_fault (c : FaultCause) (s : State) : (raiseSeqFault c s).fault = true := rfl
@[simp] theorem raiseSeqFault_fcause (c : FaultCause) (s : State) : (raiseSeqFault c s).fcause = c := rfl
@[simp] theorem raiseSeqFault_mag (c : FaultCause) (s : State) : (raiseSeqFault c s).mag = s.mag := rfl
@[simp] theorem raiseSeqFault_aden (c : FaultCause) (s : State) : (raiseSeqFault c s).aden = s.aden := rfl
@[simp] theorem raiseSeqFault_adsc (c : FaultCause) (s : State) : (raiseSeqFault c s).adsc = s.adsc := rfl
@[simp] theorem raiseSeqFault_adres (c : FaultCause) (s : State) : (raiseSeqFault c s).adres = s.adres := rfl
@[simp] theorem raiseSeqFault_adrdy (c : FaultCause) (s : State) : (raiseSeqFault c s).adrdy = s.adrdy := rfl
@[simp] theorem raiseSeqFault_cdir (c : FaultCause) (s : State) : (raiseSeqFault c s).cdir = s.cdir := rfl
@[simp] theorem raiseSeqFault_cduty (c : FaultCause) (s : State) : (raiseSeqFault c s).cduty = s.cduty := rfl
@[simp] theorem raiseSeqFault_men (c : FaultCause) (s : State) : (raiseSeqFault c s).men = s.men := rfl
@[simp] theorem raiseSeqFault_pcnt (c : FaultCause) (s : State) : (raiseSeqFault c s).pcnt = s.pcnt := rfl
@[simp] theorem raiseSeqFault_state (c : FaultCause) (s : State) : (raiseSeqFault c s).state = s.state := rfl
@[simp] theorem raiseSeqFault_ien (c : FaultCause) (s : State) : (raiseSeqFault c s).ien = s.ien := rfl
@[simp] theorem raiseSeqFault_gie (c : FaultCause) (s : State) : (raiseSeqFault c s).gie = s.gie := rfl
@[simp] theorem raiseSeqFault_ipend (c : FaultCause) (s : State) : (raiseSeqFault c s).ipend = s.ipend := rfl
@[simp] theorem raiseSeqFault_btnq (c : FaultCause) (s : State) : (raiseSeqFault c s).btnq = s.btnq := rfl
@[simp] theorem raiseSeqFault_trun (c : FaultCause) (s : State) : (raiseSeqFault c s).trun = s.trun := rfl
@[simp] theorem raiseSeqFault_tpre (c : FaultCause) (s : State) : (raiseSeqFault c s).tpre = s.tpre := rfl
@[simp] theorem raiseSeqFault_tdiv (c : FaultCause) (s : State) : (raiseSeqFault c s).tdiv = s.tdiv := rfl
@[simp] theorem raiseSeqFault_tcnt (c : FaultCause) (s : State) : (raiseSeqFault c s).tcnt = s.tcnt := rfl
@[simp] theorem raiseSeqFault_tcmp (c : FaultCause) (s : State) : (raiseSeqFault c s).tcmp = s.tcmp := rfl
@[simp] theorem raiseSeqFault_tflag (c : FaultCause) (s : State) : (raiseSeqFault c s).tflag = s.tflag := rfl
@[simp] theorem raiseSeqFault_cdig (c : FaultCause) (s : State) : (raiseSeqFault c s).cdig = s.cdig := rfl
@[simp] theorem raiseSeqFault_segout (c : FaultCause) (s : State) : (raiseSeqFault c s).segout = s.segout := rfl
@[simp] theorem raiseSeqFault_params (c : FaultCause) (s : State) : (raiseSeqFault c s).params = s.params := rfl
@[simp] theorem raiseSeqFault_rom (c : FaultCause) (s : State) : (raiseSeqFault c s).rom = s.rom := rfl
@[simp] theorem raiseSeqFault_moves (c : FaultCause) (s : State) : (raiseSeqFault c s).moves = s.moves := rfl
@[simp] theorem raiseSeqFault_draws (c : FaultCause) (s : State) : (raiseSeqFault c s).draws = s.draws := rfl

/-! ### serveInterrupt -/

@[simp] theorem serveInterrupt_pc (s : State) : (serveInterrupt s).pc = s.pc := rfl
@[simp] theorem serveInterrupt_ph (s : State) : (serveInterrupt s).ph = s.ph := rfl
@[simp] theorem serveInterrupt_wrem (s : State) : (serveInterrupt s).wrem = s.wrem := rfl
@[simp] theorem serveInterrupt_wcfg (s : State) : (serveInterrupt s).wcfg = s.wcfg := rfl
@[simp] theorem serveInterrupt_fault (s : State) : (serveInterrupt s).fault = s.fault := rfl
@[simp] theorem serveInterrupt_fcause (s : State) : (serveInterrupt s).fcause = s.fcause := rfl
@[simp] theorem serveInterrupt_mag (s : State) : (serveInterrupt s).mag = s.mag := rfl
@[simp] theorem serveInterrupt_aden (s : State) : (serveInterrupt s).aden = s.aden := rfl
@[simp] theorem serveInterrupt_adsc (s : State) : (serveInterrupt s).adsc = s.adsc := rfl
@[simp] theorem serveInterrupt_adres (s : State) : (serveInterrupt s).adres = s.adres := rfl
@[simp] theorem serveInterrupt_adrdy (s : State) : (serveInterrupt s).adrdy = s.adrdy := rfl
@[simp] theorem serveInterrupt_cdir (s : State) : (serveInterrupt s).cdir = s.cdir := rfl
@[simp] theorem serveInterrupt_cduty (s : State) : (serveInterrupt s).cduty = s.cduty := rfl
@[simp] theorem serveInterrupt_men (s : State) : (serveInterrupt s).men = s.men := rfl
@[simp] theorem serveInterrupt_pcnt (s : State) : (serveInterrupt s).pcnt = s.pcnt := rfl
@[simp] theorem serveInterrupt_state (s : State) : (serveInterrupt s).state = handlerNext s.state := rfl
@[simp] theorem serveInterrupt_ien (s : State) : (serveInterrupt s).ien = s.ien := rfl
@[simp] theorem serveInterrupt_gie (s : State) : (serveInterrupt s).gie = s.gie := rfl
@[simp] theorem serveInterrupt_ipend (s : State) : (serveInterrupt s).ipend = false := rfl
@[simp] theorem serveInterrupt_btnq (s : State) : (serveInterrupt s).btnq = s.btnq := rfl
@[simp] theorem serveInterrupt_trun (s : State) : (serveInterrupt s).trun = s.trun := rfl
@[simp] theorem serveInterrupt_tpre (s : State) : (serveInterrupt s).tpre = s.tpre := rfl
@[simp] theorem serveInterrupt_tdiv (s : State) : (serveInterrupt s).tdiv = s.tdiv := rfl
@[simp] theorem serveInterrupt_tcnt (s : State) : (serveInterrupt s).tcnt = s.tcnt := rfl
@[simp] theorem serveInterrupt_tcmp (s : State) : (serveInterrupt s).tcmp = s.tcmp := rfl
@[simp] theorem serveInterrupt_tflag (s : State) : (serveInterrupt s).tflag = s.tflag := rfl
@[simp] theorem serveInterrupt_cdig (s : State) : (serveInterrupt s).cdig = s.cdig := rfl
@[simp] theorem serveInterrupt_segout (s : State) : (serveInterrupt s).segout = s.segout := rfl
@[simp] theorem serveInterrupt_params (s : State) : (serveInterrupt s).params = s.params := rfl
@[simp] theorem serveInterrupt_rom (s : State) : (serveInterrupt s).rom = s.rom := rfl
@[simp] theorem serveInterrupt_moves (s : State) : (serveInterrupt s).moves = s.moves := rfl
@[simp] theorem serveInterrupt_draws (s : State) : (serveInterrupt s).draws = s.draws := rfl

/-! ### startConversion -/

@[simp] theorem startConversion_pc (s : State) : (startConversion s).pc = s.pc := rfl
@[simp] theorem startConversion_ph (s : State) : (startConversion s).ph = true := rfl
@[simp] theorem startConversion_wrem (s : State) : (startConversion s).wrem = s.wrem := rfl
@[simp] theorem startConversion_wcfg (s : State) : (startConversion s).wcfg = s.wcfg := rfl
@[simp] theorem startConversion_fault (s : State) : (startConversion s).fault = s.fault := rfl
@[simp] theorem startConversion_fcause (s : State) : (startConversion s).fcause = s.fcause := rfl
@[simp] theorem startConversion_mag (s : State) : (startConversion s).mag = s.mag := rfl
@[simp] theorem startConversion_aden (s : State) : (startConversion s).aden = s.aden := rfl
@[simp] theorem startConversion_adsc (s : State) : (startConversion s).adsc = true := rfl
@[simp] theorem startConversion_adres (s : State) : (startConversion s).adres = s.adres := rfl
@[simp] theorem startConversion_adrdy (s : State) : (startConversion s).adrdy = s.adrdy := rfl
@[simp] theorem startConversion_cdir (s : State) : (startConversion s).cdir = s.cdir := rfl
@[simp] theorem startConversion_cduty (s : State) : (startConversion s).cduty = s.cduty := rfl
@[simp] theorem startConversion_men (s : State) : (startConversion s).men = s.men := rfl
@[simp] theorem startConversion_pcnt (s : State) : (startConversion s).pcnt = s.pcnt := rfl
@[simp] theorem startConversion_state (s : State) : (startConversion s).state = s.state := rfl
@[simp] theorem startConversion_ien (s : State) : (startConversion s).ien = s.ien := rfl
@[simp] theorem startConversion_gie (s : State) : (startConversion s).gie = s.gie := rfl
@[simp] theorem startConversion_ipend (s : State) : (startConversion s).ipend = s.ipend := rfl
@[simp] theorem startConversion_btnq (s : State) : (startConversion s).btnq = s.btnq := rfl
@[simp] theorem startConversion_trun (s : State) : (startConversion s).trun = s.trun := rfl
@[simp] theorem startConversion_tpre (s : State) : (startConversion s).tpre = s.tpre := rfl
@[simp] theorem startConversion_tdiv (s : State) : (startConversion s).tdiv = s.tdiv := rfl
@[simp] theorem startConversion_tcnt (s : State) : (startConversion s).tcnt = s.tcnt := rfl
@[simp] theorem startConversion_tcmp (s : State) : (startConversion s).tcmp = s.tcmp := rfl
@[simp] theorem startConversion_tflag (s : State) : (startConversion s).tflag = s.tflag := rfl
@[simp] theorem startConversion_cdig (s : State) : (startConversion s).cdig = s.cdig := rfl
@[simp] theorem startConversion_segout (s : State) : (startConversion s).segout = s.segout := rfl
@[simp] theorem startConversion_params (s : State) : (startConversion s).params = s.params := rfl
@[simp] theorem startConversion_rom (s : State) : (startConversion s).rom = s.rom := rfl
@[simp] theorem startConversion_moves (s : State) : (startConversion s).moves = s.moves := rfl
@[simp] theorem startConversion_draws (s : State) : (startConversion s).draws = s.draws := rfl

/-! ### deliver -/

@[simp] theorem deliver_pc (v : BitVec 10) (s : State) : (deliver v s).pc = s.pc := rfl
@[simp] theorem deliver_ph (v : BitVec 10) (s : State) : (deliver v s).ph = s.ph := rfl
@[simp] theorem deliver_wrem (v : BitVec 10) (s : State) : (deliver v s).wrem = s.wrem := rfl
@[simp] theorem deliver_wcfg (v : BitVec 10) (s : State) : (deliver v s).wcfg = s.wcfg := rfl
@[simp] theorem deliver_fault (v : BitVec 10) (s : State) : (deliver v s).fault = s.fault := rfl
@[simp] theorem deliver_fcause (v : BitVec 10) (s : State) : (deliver v s).fcause = s.fcause := rfl
@[simp] theorem deliver_mag (v : BitVec 10) (s : State) : (deliver v s).mag = s.mag := rfl
@[simp] theorem deliver_aden (v : BitVec 10) (s : State) : (deliver v s).aden = s.aden := rfl
@[simp] theorem deliver_adsc (v : BitVec 10) (s : State) : (deliver v s).adsc = false := rfl
@[simp] theorem deliver_adres (v : BitVec 10) (s : State) : (deliver v s).adres = adresOfCode v := rfl
@[simp] theorem deliver_adrdy (v : BitVec 10) (s : State) : (deliver v s).adrdy = s.adrdy := rfl
@[simp] theorem deliver_cdir (v : BitVec 10) (s : State) : (deliver v s).cdir = s.cdir := rfl
@[simp] theorem deliver_cduty (v : BitVec 10) (s : State) : (deliver v s).cduty = s.cduty := rfl
@[simp] theorem deliver_men (v : BitVec 10) (s : State) : (deliver v s).men = s.men := rfl
@[simp] theorem deliver_pcnt (v : BitVec 10) (s : State) : (deliver v s).pcnt = s.pcnt := rfl
@[simp] theorem deliver_state (v : BitVec 10) (s : State) : (deliver v s).state = s.state := rfl
@[simp] theorem deliver_ien (v : BitVec 10) (s : State) : (deliver v s).ien = s.ien := rfl
@[simp] theorem deliver_gie (v : BitVec 10) (s : State) : (deliver v s).gie = s.gie := rfl
@[simp] theorem deliver_ipend (v : BitVec 10) (s : State) : (deliver v s).ipend = s.ipend := rfl
@[simp] theorem deliver_btnq (v : BitVec 10) (s : State) : (deliver v s).btnq = s.btnq := rfl
@[simp] theorem deliver_trun (v : BitVec 10) (s : State) : (deliver v s).trun = s.trun := rfl
@[simp] theorem deliver_tpre (v : BitVec 10) (s : State) : (deliver v s).tpre = s.tpre := rfl
@[simp] theorem deliver_tdiv (v : BitVec 10) (s : State) : (deliver v s).tdiv = s.tdiv := rfl
@[simp] theorem deliver_tcnt (v : BitVec 10) (s : State) : (deliver v s).tcnt = s.tcnt := rfl
@[simp] theorem deliver_tcmp (v : BitVec 10) (s : State) : (deliver v s).tcmp = s.tcmp := rfl
@[simp] theorem deliver_tflag (v : BitVec 10) (s : State) : (deliver v s).tflag = s.tflag := rfl
@[simp] theorem deliver_cdig (v : BitVec 10) (s : State) : (deliver v s).cdig = s.cdig := rfl
@[simp] theorem deliver_segout (v : BitVec 10) (s : State) : (deliver v s).segout = s.segout := rfl
@[simp] theorem deliver_params (v : BitVec 10) (s : State) : (deliver v s).params = s.params := rfl
@[simp] theorem deliver_rom (v : BitVec 10) (s : State) : (deliver v s).rom = s.rom := rfl
@[simp] theorem deliver_moves (v : BitVec 10) (s : State) : (deliver v s).moves = s.moves := rfl
@[simp] theorem deliver_draws (v : BitVec 10) (s : State) : (deliver v s).draws = s.draws := rfl

/-! ### writeCommand -/

@[simp] theorem writeCommand_pc (c : Direction × BitVec 10) (s : State) : (writeCommand c s).pc = s.pc := rfl
@[simp] theorem writeCommand_ph (c : Direction × BitVec 10) (s : State) : (writeCommand c s).ph = s.ph := rfl
@[simp] theorem writeCommand_wrem (c : Direction × BitVec 10) (s : State) : (writeCommand c s).wrem = s.wrem := rfl
@[simp] theorem writeCommand_wcfg (c : Direction × BitVec 10) (s : State) : (writeCommand c s).wcfg = s.wcfg := rfl
@[simp] theorem writeCommand_fault (c : Direction × BitVec 10) (s : State) : (writeCommand c s).fault = s.fault := rfl
@[simp] theorem writeCommand_fcause (c : Direction × BitVec 10) (s : State) : (writeCommand c s).fcause = s.fcause := rfl
@[simp] theorem writeCommand_mag (c : Direction × BitVec 10) (s : State) : (writeCommand c s).mag = s.mag := rfl
@[simp] theorem writeCommand_aden (c : Direction × BitVec 10) (s : State) : (writeCommand c s).aden = s.aden := rfl
@[simp] theorem writeCommand_adsc (c : Direction × BitVec 10) (s : State) : (writeCommand c s).adsc = s.adsc := rfl
@[simp] theorem writeCommand_adres (c : Direction × BitVec 10) (s : State) : (writeCommand c s).adres = s.adres := rfl
@[simp] theorem writeCommand_adrdy (c : Direction × BitVec 10) (s : State) : (writeCommand c s).adrdy = s.adrdy := rfl
@[simp] theorem writeCommand_cdir (c : Direction × BitVec 10) (s : State) : (writeCommand c s).cdir = c.1 := rfl
@[simp] theorem writeCommand_cduty (c : Direction × BitVec 10) (s : State) : (writeCommand c s).cduty = c.2 := rfl
@[simp] theorem writeCommand_men (c : Direction × BitVec 10) (s : State) : (writeCommand c s).men = s.men := rfl
@[simp] theorem writeCommand_pcnt (c : Direction × BitVec 10) (s : State) : (writeCommand c s).pcnt = s.pcnt := rfl
@[simp] theorem writeCommand_state (c : Direction × BitVec 10) (s : State) : (writeCommand c s).state = s.state := rfl
@[simp] theorem writeCommand_ien (c : Direction × BitVec 10) (s : State) : (writeCommand c s).ien = s.ien := rfl
@[simp] theorem writeCommand_gie (c : Direction × BitVec 10) (s : State) : (writeCommand c s).gie = s.gie := rfl
@[simp] theorem writeCommand_ipend (c : Direction × BitVec 10) (s : State) : (writeCommand c s).ipend = s.ipend := rfl
@[simp] theorem writeCommand_btnq (c : Direction × BitVec 10) (s : State) : (writeCommand c s).btnq = s.btnq := rfl
@[simp] theorem writeCommand_trun (c : Direction × BitVec 10) (s : State) : (writeCommand c s).trun = s.trun := rfl
@[simp] theorem writeCommand_tpre (c : Direction × BitVec 10) (s : State) : (writeCommand c s).tpre = s.tpre := rfl
@[simp] theorem writeCommand_tdiv (c : Direction × BitVec 10) (s : State) : (writeCommand c s).tdiv = s.tdiv := rfl
@[simp] theorem writeCommand_tcnt (c : Direction × BitVec 10) (s : State) : (writeCommand c s).tcnt = s.tcnt := rfl
@[simp] theorem writeCommand_tcmp (c : Direction × BitVec 10) (s : State) : (writeCommand c s).tcmp = s.tcmp := rfl
@[simp] theorem writeCommand_tflag (c : Direction × BitVec 10) (s : State) : (writeCommand c s).tflag = s.tflag := rfl
@[simp] theorem writeCommand_cdig (c : Direction × BitVec 10) (s : State) : (writeCommand c s).cdig = s.cdig := rfl
@[simp] theorem writeCommand_segout (c : Direction × BitVec 10) (s : State) : (writeCommand c s).segout = s.segout := rfl
@[simp] theorem writeCommand_params (c : Direction × BitVec 10) (s : State) : (writeCommand c s).params = s.params := rfl
@[simp] theorem writeCommand_rom (c : Direction × BitVec 10) (s : State) : (writeCommand c s).rom = s.rom := rfl
@[simp] theorem writeCommand_moves (c : Direction × BitVec 10) (s : State) : (writeCommand c s).moves = s.moves := rfl
@[simp] theorem writeCommand_draws (c : Direction × BitVec 10) (s : State) : (writeCommand c s).draws = s.draws := rfl

/-! ### blankDisplay -/

@[simp] theorem blankDisplay_pc (s : State) : (blankDisplay s).pc = s.pc := rfl
@[simp] theorem blankDisplay_ph (s : State) : (blankDisplay s).ph = s.ph := rfl
@[simp] theorem blankDisplay_wrem (s : State) : (blankDisplay s).wrem = s.wrem := rfl
@[simp] theorem blankDisplay_wcfg (s : State) : (blankDisplay s).wcfg = s.wcfg := rfl
@[simp] theorem blankDisplay_fault (s : State) : (blankDisplay s).fault = s.fault := rfl
@[simp] theorem blankDisplay_fcause (s : State) : (blankDisplay s).fcause = s.fcause := rfl
@[simp] theorem blankDisplay_mag (s : State) : (blankDisplay s).mag = s.mag := rfl
@[simp] theorem blankDisplay_aden (s : State) : (blankDisplay s).aden = s.aden := rfl
@[simp] theorem blankDisplay_adsc (s : State) : (blankDisplay s).adsc = s.adsc := rfl
@[simp] theorem blankDisplay_adres (s : State) : (blankDisplay s).adres = s.adres := rfl
@[simp] theorem blankDisplay_adrdy (s : State) : (blankDisplay s).adrdy = s.adrdy := rfl
@[simp] theorem blankDisplay_cdir (s : State) : (blankDisplay s).cdir = s.cdir := rfl
@[simp] theorem blankDisplay_cduty (s : State) : (blankDisplay s).cduty = s.cduty := rfl
@[simp] theorem blankDisplay_men (s : State) : (blankDisplay s).men = s.men := rfl
@[simp] theorem blankDisplay_pcnt (s : State) : (blankDisplay s).pcnt = s.pcnt := rfl
@[simp] theorem blankDisplay_state (s : State) : (blankDisplay s).state = s.state := rfl
@[simp] theorem blankDisplay_ien (s : State) : (blankDisplay s).ien = s.ien := rfl
@[simp] theorem blankDisplay_gie (s : State) : (blankDisplay s).gie = s.gie := rfl
@[simp] theorem blankDisplay_ipend (s : State) : (blankDisplay s).ipend = s.ipend := rfl
@[simp] theorem blankDisplay_btnq (s : State) : (blankDisplay s).btnq = s.btnq := rfl
@[simp] theorem blankDisplay_trun (s : State) : (blankDisplay s).trun = s.trun := rfl
@[simp] theorem blankDisplay_tpre (s : State) : (blankDisplay s).tpre = s.tpre := rfl
@[simp] theorem blankDisplay_tdiv (s : State) : (blankDisplay s).tdiv = s.tdiv := rfl
@[simp] theorem blankDisplay_tcnt (s : State) : (blankDisplay s).tcnt = s.tcnt := rfl
@[simp] theorem blankDisplay_tcmp (s : State) : (blankDisplay s).tcmp = s.tcmp := rfl
@[simp] theorem blankDisplay_tflag (s : State) : (blankDisplay s).tflag = s.tflag := rfl
@[simp] theorem blankDisplay_cdig (s : State) : (blankDisplay s).cdig = s.cdig := rfl
@[simp] theorem blankDisplay_segout (s : State) : (blankDisplay s).segout = s.params.segBlank := rfl
@[simp] theorem blankDisplay_params (s : State) : (blankDisplay s).params = s.params := rfl
@[simp] theorem blankDisplay_rom (s : State) : (blankDisplay s).rom = s.rom := rfl
@[simp] theorem blankDisplay_moves (s : State) : (blankDisplay s).moves = s.moves := rfl
@[simp] theorem blankDisplay_draws (s : State) : (blankDisplay s).draws = s.draws := rfl

/-! ### showDigit -/

@[simp] theorem showDigit_pc (d : BitVec 4) (s : State) : (showDigit d s).pc = s.pc := rfl
@[simp] theorem showDigit_ph (d : BitVec 4) (s : State) : (showDigit d s).ph = s.ph := rfl
@[simp] theorem showDigit_wrem (d : BitVec 4) (s : State) : (showDigit d s).wrem = s.wrem := rfl
@[simp] theorem showDigit_wcfg (d : BitVec 4) (s : State) : (showDigit d s).wcfg = s.wcfg := rfl
@[simp] theorem showDigit_fault (d : BitVec 4) (s : State) : (showDigit d s).fault = s.fault := rfl
@[simp] theorem showDigit_fcause (d : BitVec 4) (s : State) : (showDigit d s).fcause = s.fcause := rfl
@[simp] theorem showDigit_mag (d : BitVec 4) (s : State) : (showDigit d s).mag = s.mag := rfl
@[simp] theorem showDigit_aden (d : BitVec 4) (s : State) : (showDigit d s).aden = s.aden := rfl
@[simp] theorem showDigit_adsc (d : BitVec 4) (s : State) : (showDigit d s).adsc = s.adsc := rfl
@[simp] theorem showDigit_adres (d : BitVec 4) (s : State) : (showDigit d s).adres = s.adres := rfl
@[simp] theorem showDigit_adrdy (d : BitVec 4) (s : State) : (showDigit d s).adrdy = s.adrdy := rfl
@[simp] theorem showDigit_cdir (d : BitVec 4) (s : State) : (showDigit d s).cdir = s.cdir := rfl
@[simp] theorem showDigit_cduty (d : BitVec 4) (s : State) : (showDigit d s).cduty = s.cduty := rfl
@[simp] theorem showDigit_men (d : BitVec 4) (s : State) : (showDigit d s).men = s.men := rfl
@[simp] theorem showDigit_pcnt (d : BitVec 4) (s : State) : (showDigit d s).pcnt = s.pcnt := rfl
@[simp] theorem showDigit_state (d : BitVec 4) (s : State) : (showDigit d s).state = s.state := rfl
@[simp] theorem showDigit_ien (d : BitVec 4) (s : State) : (showDigit d s).ien = s.ien := rfl
@[simp] theorem showDigit_gie (d : BitVec 4) (s : State) : (showDigit d s).gie = s.gie := rfl
@[simp] theorem showDigit_ipend (d : BitVec 4) (s : State) : (showDigit d s).ipend = s.ipend := rfl
@[simp] theorem showDigit_btnq (d : BitVec 4) (s : State) : (showDigit d s).btnq = s.btnq := rfl
@[simp] theorem showDigit_trun (d : BitVec 4) (s : State) : (showDigit d s).trun = s.trun := rfl
@[simp] theorem showDigit_tpre (d : BitVec 4) (s : State) : (showDigit d s).tpre = s.tpre := rfl
@[simp] theorem showDigit_tdiv (d : BitVec 4) (s : State) : (showDigit d s).tdiv = s.tdiv := rfl
@[simp] theorem showDigit_tcnt (d : BitVec 4) (s : State) : (showDigit d s).tcnt = s.tcnt := rfl
@[simp] theorem showDigit_tcmp (d : BitVec 4) (s : State) : (showDigit d s).tcmp = s.tcmp := rfl
@[simp] theorem showDigit_tflag (d : BitVec 4) (s : State) : (showDigit d s).tflag = s.tflag := rfl
@[simp] theorem showDigit_cdig (d : BitVec 4) (s : State) : (showDigit d s).cdig = s.cdig := rfl
@[simp] theorem showDigit_segout (d : BitVec 4) (s : State) : (showDigit d s).segout = segRead s.params d := rfl
@[simp] theorem showDigit_params (d : BitVec 4) (s : State) : (showDigit d s).params = s.params := rfl
@[simp] theorem showDigit_rom (d : BitVec 4) (s : State) : (showDigit d s).rom = s.rom := rfl
@[simp] theorem showDigit_moves (d : BitVec 4) (s : State) : (showDigit d s).moves = s.moves := rfl
@[simp] theorem showDigit_draws (d : BitVec 4) (s : State) : (showDigit d s).draws = s.draws := rfl

/-! ### showCountdown -/

@[simp] theorem showCountdown_pc (d : BitVec 4) (s : State) : (showCountdown d s).pc = s.pc := rfl
@[simp] theorem showCountdown_ph (d : BitVec 4) (s : State) : (showCountdown d s).ph = s.ph := rfl
@[simp] theorem showCountdown_wrem (d : BitVec 4) (s : State) : (showCountdown d s).wrem = s.wrem := rfl
@[simp] theorem showCountdown_wcfg (d : BitVec 4) (s : State) : (showCountdown d s).wcfg = s.wcfg := rfl
@[simp] theorem showCountdown_fault (d : BitVec 4) (s : State) : (showCountdown d s).fault = s.fault := rfl
@[simp] theorem showCountdown_fcause (d : BitVec 4) (s : State) : (showCountdown d s).fcause = s.fcause := rfl
@[simp] theorem showCountdown_mag (d : BitVec 4) (s : State) : (showCountdown d s).mag = s.mag := rfl
@[simp] theorem showCountdown_aden (d : BitVec 4) (s : State) : (showCountdown d s).aden = s.aden := rfl
@[simp] theorem showCountdown_adsc (d : BitVec 4) (s : State) : (showCountdown d s).adsc = s.adsc := rfl
@[simp] theorem showCountdown_adres (d : BitVec 4) (s : State) : (showCountdown d s).adres = s.adres := rfl
@[simp] theorem showCountdown_adrdy (d : BitVec 4) (s : State) : (showCountdown d s).adrdy = s.adrdy := rfl
@[simp] theorem showCountdown_cdir (d : BitVec 4) (s : State) : (showCountdown d s).cdir = s.cdir := rfl
@[simp] theorem showCountdown_cduty (d : BitVec 4) (s : State) : (showCountdown d s).cduty = s.cduty := rfl
@[simp] theorem showCountdown_men (d : BitVec 4) (s : State) : (showCountdown d s).men = s.men := rfl
@[simp] theorem showCountdown_pcnt (d : BitVec 4) (s : State) : (showCountdown d s).pcnt = s.pcnt := rfl
@[simp] theorem showCountdown_state (d : BitVec 4) (s : State) : (showCountdown d s).state = s.state := rfl
@[simp] theorem showCountdown_ien (d : BitVec 4) (s : State) : (showCountdown d s).ien = s.ien := rfl
@[simp] theorem showCountdown_gie (d : BitVec 4) (s : State) : (showCountdown d s).gie = s.gie := rfl
@[simp] theorem showCountdown_ipend (d : BitVec 4) (s : State) : (showCountdown d s).ipend = s.ipend := rfl
@[simp] theorem showCountdown_btnq (d : BitVec 4) (s : State) : (showCountdown d s).btnq = s.btnq := rfl
@[simp] theorem showCountdown_trun (d : BitVec 4) (s : State) : (showCountdown d s).trun = s.trun := rfl
@[simp] theorem showCountdown_tpre (d : BitVec 4) (s : State) : (showCountdown d s).tpre = s.tpre := rfl
@[simp] theorem showCountdown_tdiv (d : BitVec 4) (s : State) : (showCountdown d s).tdiv = s.tdiv := rfl
@[simp] theorem showCountdown_tcnt (d : BitVec 4) (s : State) : (showCountdown d s).tcnt = s.tcnt := rfl
@[simp] theorem showCountdown_tcmp (d : BitVec 4) (s : State) : (showCountdown d s).tcmp = s.tcmp := rfl
@[simp] theorem showCountdown_tflag (d : BitVec 4) (s : State) : (showCountdown d s).tflag = s.tflag := rfl
@[simp] theorem showCountdown_cdig (d : BitVec 4) (s : State) : (showCountdown d s).cdig = d := rfl
@[simp] theorem showCountdown_segout (d : BitVec 4) (s : State) : (showCountdown d s).segout = segRead s.params d := rfl
@[simp] theorem showCountdown_params (d : BitVec 4) (s : State) : (showCountdown d s).params = s.params := rfl
@[simp] theorem showCountdown_rom (d : BitVec 4) (s : State) : (showCountdown d s).rom = s.rom := rfl
@[simp] theorem showCountdown_moves (d : BitVec 4) (s : State) : (showCountdown d s).moves = s.moves := rfl
@[simp] theorem showCountdown_draws (d : BitVec 4) (s : State) : (showCountdown d s).draws = s.draws := rfl

end Sys2Proof.Machine
end

