-- ==== Sys2Proof/Laws/Ops.lean ====
section
/-! SUPPORT. One spec lemma per shared operation and per blocking meaning: everything it can do when it answers a next
state. -/

namespace Sys2Proof.Machine

variable {s t : State}

/-! ### The wait engine -/

/-- The three phases of the wait engine (40_timer_ops.md R105). -/
theorem waitEngine_cases {k : WaitKind} (h : waitEngine k s = .next t) :
    (s.ph = false ∧ t = waitIssue k s) ∨ (s.ph = true ∧ s.tflag = false ∧ t = s) ∨
      (s.ph = true ∧ s.tflag = true ∧ t = waitSubEnd s) := by
  unfold waitEngine timerDone at h
  split at h
  · rename_i hp
    split at h
    · rename_i hf; cases h; exact .inr (.inr ⟨hp, hf, rfl⟩)
    · rename_i hf; cases h; exact .inr (.inl ⟨hp, by simpa using hf, rfl⟩)
  · rename_i hp; cases h; exact .inl ⟨by simpa using hp, rfl⟩

theorem waitSubEnd_last (h : s.wrem = 1) : waitSubEnd s = endHold { tcuStop s with wrem := 0 } := if_pos h

theorem waitSubEnd_more (h : s.wrem ≠ 1) :
    waitSubEnd s = tcuRestart s.wcfg { s with wrem := countDown s.wrem } := if_neg h

theorem countDown_toNat {n : BitVec 4} (h : n ≠ 0) : (countDown n).toNat = n.toNat - 1 := by
  have : n.toNat ≠ 0 := fun e => h (BitVec.eq_of_toNat_eq (by simpa using e))
  have := n.isLt
  simp only [countDown, h, if_false]
  bv_omega

/-- Every WAIT is the wait engine of its kind (40_timer_ops.md R107 to R110). -/
theorem exec_wait (k : WaitKind) (s : State) : exec k.instr s = waitEngine k s := by cases k <;> rfl

/-! ### The converter -/

theorem execAdcinit_cases (h : execAdcinit s = .next t) :
    (s.ph = false ∧ t = startConversion { s with aden := true }) ∨ (s.ph = true ∧ s.adsc = true ∧ t = s) ∨
      (s.ph = true ∧ s.adsc = false ∧ t = endHold { s with adrdy := true }) := by
  unfold execAdcinit conversionDone at h
  split at h
  · rename_i hp
    split at h
    · rename_i hf; cases h; exact .inr (.inr ⟨hp, by simpa using hf, rfl⟩)
    · rename_i hf; cases h; exact .inr (.inl ⟨hp, by simpa using hf, rfl⟩)
  · rename_i hp; cases h; exact .inl ⟨by simpa using hp, rfl⟩

theorem execSample_cases (h : execSample s = .next t) :
    (s.ph = false ∧ t = startConversion s) ∨ (s.ph = true ∧ s.adsc = true ∧ t = s) ∨
      (s.ph = true ∧ s.adsc = false ∧ t = endHold { s with mag := adresResult s.adres }) := by
  unfold execSample conversionDone at h
  split at h
  · rename_i hp
    split at h
    · rename_i hf; cases h; exact .inr (.inr ⟨hp, by simpa using hf, rfl⟩)
    · rename_i hf; cases h; exact .inr (.inl ⟨hp, by simpa using hf, rfl⟩)
  · rename_i hp; cases h; exact .inl ⟨by simpa using hp, rfl⟩

/-- The code a conversion delivers is what ADRES[9:0] reads as (41_adc_ops.md R121, R124). -/
@[simp] theorem adresResult_adresOfCode (v : BitVec 10) : adresResult (adresOfCode v) = v := by
  apply BitVec.eq_of_toNat_eq
  have := v.isLt
  simp [adresResult, adresOfCode]
  omega

/-- A delivered code leaves ADRES[15:10] zero (30_encoding.md R91). -/
theorem adresOfCode_high (v : BitVec 10) : (adresOfCode v).extractLsb' 10 6 = 0#6 := by
  apply BitVec.eq_of_toNat_eq
  have := v.isLt
  simp [adresOfCode, Nat.shiftRight_eq_div_pow]
  omega

/-! ### The countdown -/

theorem execCdrun_cases (h : execCdrun s = .next t) :
    (s.ph = false ∧ t = beginHold (tcuStart .s (showCountdown 9 s))) ∨ (s.ph = true ∧ s.tflag = false ∧ t = s) ∨
      (s.ph = true ∧ s.tflag = true ∧ t = countdownStep s) := by
  unfold execCdrun timerDone at h
  split at h
  · rename_i hp
    split at h
    · rename_i hf; cases h; exact .inr (.inr ⟨hp, hf, rfl⟩)
    · rename_i hf; cases h; exact .inr (.inl ⟨hp, by simpa using hf, rfl⟩)
  · rename_i hp; cases h; exact .inl ⟨by simpa using hp, rfl⟩

theorem countdownStep_last (h : s.cdig = 0) : countdownStep s = endHold (blankDisplay (tcuStop s)) := if_pos h

theorem countdownStep_more (h : s.cdig ≠ 0) :
    countdownStep s = tcuRestart .s (showCountdown (s.cdig - 1) s) := if_neg h

theorem digit_pred_toNat {d : BitVec 4} (h : d ≠ 0) : (d - 1).toNat = d.toNat - 1 := by
  have : d.toNat ≠ 0 := fun e => h (BitVec.eq_of_toNat_eq (by simpa using e))
  have := d.isLt
  bv_omega

/-! ### The mapper -/

/-- The three cases of the mapper, with the duty exact in CDUTY's ten bits (42_motor_ops.md R135, R136). -/
theorem dutyMap_cases (p : Params) (m : BitVec 10) :
    (m.toNat + p.deadzone < 511 ∧ (dutyMap p m).1 = .reverse ∧ (dutyMap p m).2.toNat = (511 - m.toNat) * 2) ∨
    (511 + p.deadzone < m.toNat ∧ (dutyMap p m).1 = .forward ∧ (dutyMap p m).2.toNat = (m.toNat - 512) * 2) ∨
    (511 ≤ m.toNat + p.deadzone ∧ m.toNat ≤ 511 + p.deadzone ∧ dutyMap p m = (.brake, 0)) := by
  have hm := m.isLt
  unfold dutyMap mapInt center
  by_cases h1 : (m.toNat : Int) < ((511 : Nat) : Int) - (p.deadzone : Int)
  · left
    rw [if_pos h1]
    refine ⟨by omega, rfl, ?_⟩
    simp only [BitVec.toNat_ofInt]
    omega
  · by_cases h2 : (m.toNat : Int) > ((511 : Nat) : Int) + (p.deadzone : Int)
    · right; left
      rw [if_neg h1, if_pos h2]
      refine ⟨by omega, rfl, ?_⟩
      simp only [BitVec.toNat_ofInt]
      omega
    · right; right
      rw [if_neg h1, if_neg h2]
      exact ⟨by omega, by omega, rfl⟩

/-! ### Transitions and branches -/

theorem transition_cases (a b : ControllerState) (s : State) :
    (s.state = a ∧ transition a b s = { s with state := b }) ∨ (s.state ≠ a ∧ transition a b s = s) := by
  unfold transition stateIs
  by_cases h : s.state = a
  · exact .inl ⟨h, by simp [h]⟩
  · exact .inr ⟨h, by simp [h]⟩

theorem execBst_cases {c : ControllerState} {tt : Addr} (h : execBst c tt s = .next t) :
    (s.state = c ∧ t = goTo tt s) ∨ (s.state ≠ c ∧ t = advance s) := by
  unfold execBst stateIs at h
  by_cases hc : s.state = c
  · simp [hc] at h; exact .inl ⟨hc, h.symm⟩
  · simp [hc] at h; exact .inr ⟨hc, h.symm⟩

theorem execDisp_cases {d : BitVec 4} (h : execDisp d s = .next t) :
    (isDigit d = true ∧ t = advance (showDigit d s)) ∨ (isDigit d = false ∧ t = raiseSeqFault .illegalOp s) := by
  unfold execDisp at h
  split at h
  · rename_i hd; cases h; exact .inl ⟨hd, rfl⟩
  · rename_i hd; cases h; exact .inr ⟨by simpa using hd, rfl⟩

end Sys2Proof.Machine
end

