-- ==== Sys2Proof/Laws/PerInstr.lean ====
section
/-! SUPPORT. The per-instruction family RowSelects: the word of a well-formed instruction is selected by the
instruction's own row of 30_encoding.md R82. -/

namespace Sys2Proof.Laws.RowSelects

/-- The row of `i` selects the word of `i`. -/
def Statement (i : Instr) : Prop := i.wellFormed = true → (opcodeRow i).selects (encode i) = true

theorem waitUs : Statement .waitUs := fun _ => by decide
theorem waitMs : Statement .waitMs := fun _ => by decide
theorem wait10ms : Statement .wait10ms := fun _ => by decide
theorem wait1s : Statement .wait1s := fun _ => by decide
theorem tinit : Statement .tinit := fun _ => by decide
theorem adcinit : Statement .adcinit := fun _ => by decide
theorem sample : Statement .sample := fun _ => by decide
theorem motinit : Statement .motinit := fun _ => by decide
theorem apply : Statement .apply := fun _ => by decide
theorem motorOff : Statement .motorOff := fun _ => by decide
theorem motorOn : Statement .motorOn := fun _ => by decide
theorem dispinit : Statement .dispinit := fun _ => by decide

theorem disp : ∀ d : BitVec 4, Statement (.disp d) := by
  unfold Statement
  decide

theorem dispClr : Statement .dispClr := fun _ => by decide
theorem cdrun : Statement .cdrun := fun _ => by decide
theorem irqinit : Statement .irqinit := fun _ => by decide
theorem irqOff : Statement .irqOff := fun _ => by decide
theorem irqOn : Statement .irqOn := fun _ => by decide
theorem gieOn : Statement .gieOn := fun _ => by decide
theorem strel : Statement .strel := fun _ => by decide
theorem stidle : Statement .stidle := fun _ => by decide

theorem bst (s : ControllerState) : ∀ tt : Addr, Statement (.bst s tt) := by
  unfold Statement
  cases s <;> decide

theorem jmp : ∀ tt : Addr, Statement (.jmp tt) := by
  unfold Statement
  decide

end Sys2Proof.Laws.RowSelects
end

