-- ==== Sys2Proof/Laws/Step.lean ====
section
/-! SUPPORT. What SEQ's step and the other agents' steps can do, the operation at PC, and runs. -/

namespace Sys2Proof.Machine

variable {s t : State}

/-! ### The operation at PC -/

/-- The operation at PC depends on ROM and PC alone. -/
theorem opAt_congr (hr : t.rom = s.rom) (hp : t.pc = s.pc) : opAt t = opAt s := by
  simp [opAt, fetch, romRead, hr, hp]

theorem opIs_congr {f : Instr → Bool} (hr : t.rom = s.rom) (hp : t.pc = s.pc) : opIs f t ↔ opIs f s := by
  simp [opIs, opAt_congr hr hp]

theorem fetch_of_opAt {i : Instr} (h : opAt s = some i) : fetch s = .ok i := by
  unfold opAt at h
  split at h <;> simp_all

theorem opAt_of_read {w : Word} {i : Instr} (hr : romRead s s.pc = some w) (hd : decodeWord w = .ok i) :
    opAt s = some i := by
  simp [opAt, fetch, hr, hd]

theorem opIs_of_opAt {f : Instr → Bool} {i : Instr} (h : opAt s = some i) : opIs f s ↔ f i = true := by
  simp [opIs, h]

/-! ### SEQ's step -/

/-- Everything SEQ's step can do (43_control_ops.md R168). -/
theorem seqStep_cases (h : seqStep s = .next t) :
    (s.fault = true ∧ t = s) ∨
    (s.fault = false ∧ s.ph = true ∧ t = s ∧ ¬ opIs blocking s) ∨
    (s.fault = false ∧ s.ph = false ∧ opAt s = none ∧ ∃ c, c ≠ FaultCause.none ∧ t = raiseSeqFault c s) ∨
    (s.fault = false ∧ ∃ i, opAt s = some i ∧ (s.ph = false ∨ blocking i = true) ∧ exec i s = .next t) := by
  unfold seqStep at h
  split at h
  · rename_i hf; cases h; exact .inl ⟨hf, rfl⟩
  · rename_i hf
    have hf' : s.fault = false := by simpa using hf
    right
    split at h
    · rename_i c hc
      have hop : opAt s = none := by simp [opAt, hc]
      split at h
      · rename_i hp; cases h
        exact .inl ⟨hf', hp, rfl, by simp [opIs, hop]⟩
      · rename_i hp; cases h
        refine .inr (.inl ⟨hf', by simpa using hp, hop, c, ?_, rfl⟩)
        rintro rfl
        unfold fetch at hc
        split at hc
        · cases hc
        · split at hc <;> cases hc
    · rename_i i hi
      have hop : opAt s = some i := by simp [opAt, hi]
      split at h
      · rename_i hb; cases h
        simp only [Bool.and_eq_true, Bool.not_eq_true'] at hb
        exact .inl ⟨hf', hb.1, rfl, by simp [opIs, hop, hb.2]⟩
      · rename_i hb
        refine .inr (.inr ⟨hf', i, hop, ?_, h⟩)
        cases hp : s.ph
        · exact .inl rfl
        · right; simpa [hp] using hb

/-- SEQ runs the operation at PC, when it is there to run. -/
theorem seqStep_exec {i : Instr} (hf : s.fault = false) (hop : opAt s = some i) (hb : s.ph = false ∨ blocking i = true) :
    seqStep s = exec i s := by
  have : (s.ph && !blocking i) = false := by rcases hb with h | h <;> simp [h]
  simp [seqStep, hf, fetch_of_opAt hop, this]

@[simp] theorem agentStep_seq (s : State) : agentStep .seq s = seqStep s := rfl
@[simp] theorem agentStep_clk (s : State) : agentStep .clk s = .next (clkStep s) := rfl
@[simp] theorem agentStep_pwm (s : State) : agentStep .pwm s = .next (pwmStep s) := rfl
@[simp] theorem agentStep_adc (v : BitVec 10) (s : State) : agentStep (.adc v) s = .next (adcStep v s) := rfl
@[simp] theorem agentStep_btn (b : Bool) (s : State) : agentStep (.btn b) s = .next (btnStep b s) := rfl
@[simp] theorem agentStep_isr (s : State) : agentStep .isr s = .next (isrStep s) := rfl
@[simp] theorem agentStep_rst (b : Bool) (s : State) : agentStep (.rst b) s = .next (rstStep b s) := rfl

@[simp] theorem isRst_seq : isRst .seq = false := rfl
@[simp] theorem isRst_clk : isRst .clk = false := rfl
@[simp] theorem isRst_pwm : isRst .pwm = false := rfl
@[simp] theorem isRst_adc (v : BitVec 10) : isRst (.adc v) = false := rfl
@[simp] theorem isRst_btn (b : Bool) : isRst (.btn b) = false := rfl
@[simp] theorem isRst_isr : isRst .isr = false := rfl
@[simp] theorem isRst_rst (b : Bool) : isRst (.rst b) = true := rfl

theorem step_cases (h : step s = .next t) : agentStep (takeMove s).1 (takeMove s).2 = .next t := h

/-! ### The other agents -/

/-- Everything a tick of `clk` can do (40_timer_ops.md R102). -/
theorem clkStep_cases (s : State) :
    (s.trun = false ∧ clkStep s = s) ∨
    (s.trun = true ∧ s.tdiv + 1 ≠ s.tpre ∧ clkStep s = { s with tdiv := s.tdiv + 1 }) ∨
    (s.trun = true ∧ s.tdiv + 1 = s.tpre ∧ clkStep s =
      { s with
        tdiv := 0
        tcnt := (s.tcnt + 1) % 2 ^ s.params.wCnt
        tflag := compareFlag ((s.tcnt + 1) % 2 ^ s.params.wCnt) s.tcmp s.tflag }) := by
  unfold clkStep
  cases hr : s.trun
  · simp
  · by_cases hd : s.tdiv + 1 = s.tpre <;> simp [hd]

/-- Everything a completion can do (41_adc_ops.md R121). -/
theorem adcStep_cases (v : BitVec 10) (s : State) :
    (s.adsc = false ∧ adcStep v s = s) ∨ (s.adsc = true ∧ s.adrdy = true ∧ adcStep v s = deliver v s) ∨
    (s.adsc = true ∧ s.adrdy = false ∧
      adcStep v s = deliver (Config.freeCode s.draws) { s with draws := s.draws + 1 }) := by
  unfold adcStep
  cases s.adsc <;> cases s.adrdy <;> simp

/-- Everything the handler can do (60_exceptions.md R215). -/
theorem isrStep_cases (s : State) :
    (handlerEnabled s = true ∧ isrStep s = serveInterrupt s) ∨ (handlerEnabled s = false ∧ isrStep s = s) := by
  unfold isrStep
  cases handlerEnabled s <;> simp

/-- The fields a change of `btn` leaves alone: all but IPEND and BTNQ (60_exceptions.md R213). -/
theorem btnStep_eq (b : Bool) (s : State) :
    btnStep b s = { s with ipend := (btnStep b s).ipend, btnq := b } := rfl

/-! ### Runs -/

theorem agentNext_of {m : Move} (h : agentStep m s = .next t) : agentNext m s = t := by simp [agentNext, h]

@[simp] theorem runMoves_nil (s : State) : runMoves [] s = s := rfl

@[simp] theorem runMoves_cons (m : Move) (ms : List Move) (s : State) :
    runMoves (m :: ms) s = runMoves ms (agentNext m s) := rfl

theorem runMoves_append (ms ns : List Move) (s : State) :
    runMoves (ms ++ ns) s = runMoves ns (runMoves ms s) := by
  induction ms generalizing s with
  | nil => rfl
  | cons m ms ih => simp [ih]

/-- Ticks that do not complete a prescaler phase only advance it (40_timer_ops.md R102). -/
theorem ticks_within_phase (n : Nat) (s : State) (hr : s.trun = true) (h : s.tdiv + n < s.tpre) :
    runMoves (List.replicate n .clk) s = { s with tdiv := s.tdiv + n } := by
  induction n generalizing s with
  | zero => rfl
  | succ n ih =>
    have hc : agentNext .clk s = { s with tdiv := s.tdiv + 1 } := by
      simp [agentNext, agentStep, clkStep, hr, show s.tdiv + 1 ≠ s.tpre by omega]
    rw [List.replicate_succ, runMoves_cons, hc,
      ih { s with tdiv := s.tdiv + 1 } hr (by show s.tdiv + 1 + n < s.tpre; omega)]
    simp only [Nat.add_assoc, Nat.add_comm 1 n]

/-- A property that every listed move keeps holds after the list. -/
theorem runMoves_induction {P : State → Prop} (ok : Move → Prop) (hstep : ∀ m s, ok m → P s → P (agentNext m s))
    (ms : List Move) (s : State) (hok : ∀ m ∈ ms, ok m) (h : P s) : P (runMoves ms s) := by
  induction ms generalizing s with
  | nil => exact h
  | cons m ms ih =>
    exact ih _ (fun m' hm' => hok m' (List.mem_cons_of_mem _ hm')) (hstep m s (hok m List.mem_cons_self) h)

/-- A property that every move of an infinite schedule keeps holds all along its run. -/
theorem runOf_induction {P : State → Prop} (schedule : Nat → Move) (s : State)
    (hstep : ∀ n t, P t → P (agentNext (schedule n) t)) (h : P s) (n : Nat) : P (runOf schedule s n) := by
  induction n with
  | zero => exact h
  | succ n ih => exact hstep n _ ih

end Sys2Proof.Machine
end

