-- ==== Sys2Proof/Machine/Assembler.lean ====
section
/-! DEFINITION. The assembler's source language (30_encoding.md R93) and its pseudo-operations (R94): one line at a time
from characters to an operation, then labels to word addresses. The hardware holds only the words (log 26). -/

namespace Sys2Proof.Machine

/-! ### Pseudo-operations on instructions (30_encoding.md R94) -/

/-- `B.IDLE tt`. -/
def bIdle (tt : Addr) : Instr := .bst .idle tt

/-- `B.PRESSED tt`. -/
def bPressed (tt : Addr) : Instr := .bst .pressed tt

/-- `B.RELEASED tt`. -/
def bReleased (tt : Addr) : Instr := .bst .released tt

/-- `B.COOLDOWN tt`. -/
def bCooldown (tt : Addr) : Instr := .bst .cooldownActive tt

/-- `WAIT.SETTLE`: the WAIT of kind SETTLE_KIND. -/
def waitSettle (p : ParamSet) : Instr := p.settleKind.instr

/-! ### Words of a line -/

/-- The source text, as characters. -/
abbrev Text := List Char

/-- A blank or a tab. -/
def isBlank (c : Char) : Bool := c = ' ' || c = '\t'

/-- Without blanks at either end. -/
def trim (t : Text) : Text := ((t.dropWhile isBlank).reverse.dropWhile isBlank).reverse

/-- The text before the first `c` and, if there is one, the text after it. -/
def cut (c : Char) (t : Text) : Text × Option Text :=
  match t with
  | [] => ([], none)
  | x :: xs => if x = c then ([], some xs) else ((x :: (cut c xs).1), (cut c xs).2)

/-- The operands, separated by commas. -/
def splitCommas : Text → List Text
  | [] => [[]]
  | x :: xs =>
    if x = ',' then [] :: splitCommas xs
    else
      match splitCommas xs with
      | [] => [[x]]
      | t :: ts => (x :: t) :: ts

/-- The value of a digit below `base`. -/
def digitValue (base : Nat) (c : Char) : Option Nat :=
  let n := c.toNat
  let v := if 48 ≤ n ∧ n ≤ 57 then n - 48 else if 65 ≤ n ∧ n ≤ 70 then n - 55 else if 97 ≤ n ∧ n ≤ 102 then n - 87 else base
  if v < base then some v else none

/-- The number that digits stand for, after `acc`. -/
def digitsValue (base : Nat) : Nat → Text → Option Nat
  | acc, [] => some acc
  | acc, c :: cs =>
    match digitValue base c with
    | some v => digitsValue base (acc * base + v) cs
    | none => none

/-- A number: decimal unless written `0x…` or `0b…` (00_scope.md section 6). -/
def number (t : Text) : Option Nat :=
  match t with
  | [] => none
  | '0' :: 'x' :: c :: cs => digitsValue 16 0 (c :: cs)
  | '0' :: 'b' :: c :: cs => digitsValue 2 0 (c :: cs)
  | c :: cs => digitsValue 10 0 (c :: cs)

/-! ### Operations -/

/-- An operation whose address operand is still a label or a number. -/
inductive AsmOp where
  | plain (i : Instr)
  | branch (s : ControllerState) (target : Text)
  | jump (target : Text)
  | settle
  deriving DecidableEq, Repr

/-- One line: an optional label and an optional operation. -/
structure AsmLine where
  label : Option Text
  op : Option AsmOp
  deriving DecidableEq, Repr

/-- The mnemonics of the operations without operands (30_encoding.md R82). -/
def plainMnemonics : List (Text × Instr) :=
  [("WAIT.US".toList, .waitUs),
   ("WAIT.MS".toList, .waitMs),
   ("WAIT.10MS".toList, .wait10ms),
   ("WAIT.1S".toList, .wait1s),
   ("TINIT".toList, .tinit),
   ("ADCINIT".toList, .adcinit),
   ("SAMPLE".toList, .sample),
   ("MOTINIT".toList, .motinit),
   ("APPLY".toList, .apply),
   ("MOTOR.OFF".toList, .motorOff)] ++
  [("MOTOR.ON".toList, .motorOn),
   ("DISPINIT".toList, .dispinit),
   ("DISP.CLR".toList, .dispClr),
   ("CDRUN".toList, .cdrun),
   ("IRQINIT".toList, .irqinit),
   ("IRQ.OFF".toList, .irqOff),
   ("IRQ.ON".toList, .irqOn),
   ("GIE.ON".toList, .gieOn),
   ("STREL".toList, .strel),
   ("STIDLE".toList, .stidle)]

/-- The state names (30_encoding.md R93). -/
def stateNames : List (Text × ControllerState) :=
  [("Idle".toList, .idle),
   ("Pressed".toList, .pressed),
   ("Released".toList, .released),
   ("Cooldown".toList, .cooldownActive)]

/-- The branch pseudo-operations (30_encoding.md R94). -/
def branchPseudos : List (Text × ControllerState) :=
  [("B.IDLE".toList, .idle),
   ("B.PRESSED".toList, .pressed),
   ("B.RELEASED".toList, .released),
   ("B.COOLDOWN".toList, .cooldownActive)]

/-- What stands beside a name in a table. -/
def lookup {α : Type} (name : Text) : List (Text × α) → Option α
  | [] => none
  | (t, a) :: rest => if t = name then some a else lookup name rest

/-- A state operand: a name, or its number 0 to 3 (30_encoding.md R93). -/
def stateOperand (t : Text) : Option ControllerState :=
  match lookup t stateNames with
  | some c => some c
  | none =>
    match number t with
    | some n => if n ≤ 3 then some (.ofCode (BitVec.ofNat 2 n)) else none
    | none => none

/-- A digit operand: a number 0 to 9 (30_encoding.md R93). -/
def digitOperand (t : Text) : Option (BitVec 4) :=
  match number t with
  | some n => if n ≤ 9 then some (BitVec.ofNat 4 n) else none
  | none => none

/-- The operation of a mnemonic and its operands (30_encoding.md R82, R93, R94). -/
def parseOp (name : Text) (operands : List Text) : Option AsmOp :=
  match operands with
  | [] =>
    if name = "WAIT.SETTLE".toList then some .settle
    else (lookup name plainMnemonics).map .plain
  | [a] =>
    if name = "DISP".toList then (digitOperand a).map fun d => .plain (.disp d)
    else if name = "JMP".toList then some (.jump a)
    else (lookup name branchPseudos).map fun c => .branch c a
  | [a, b] => if name = "BST".toList then (stateOperand a).map fun c => .branch c b else none
  | _ => none

/-- Mnemonic and operands of a line without comment and label. -/
def parseBody (t : Text) : Option AsmOp :=
  let name := (trim t).takeWhile fun c => !isBlank c
  let rest := trim ((trim t).dropWhile fun c => !isBlank c)
  parseOp name (if rest = [] then [] else (splitCommas rest).map trim)

/-- A line: "an optional label `name:`, the mnemonic, then the operands separated by commas. A comment runs from `;` to
the end of the line" (30_encoding.md R93). A name is any text before the first colon, also an empty one or one with
blanks inside (log 26, DESIGN CHOICE). -/
def parseLine (t : Text) : Option AsmLine :=
  let code := (cut ';' t).1
  let label := match cut ':' code with
    | (name, some _) => some (trim name)
    | (_, none) => none
  let body := match cut ':' code with
    | (_, some rest) => rest
    | (whole, none) => whole
  if trim body = [] then some ⟨label, none⟩ else (parseBody body).map fun op => ⟨label, some op⟩

/-! ### Labels and words -/

/-- The labels of a source with their word addresses, "assigned in order from 0x00" (30_encoding.md R93). -/
def labels : Nat → List AsmLine → List (Text × Nat)
  | _, [] => []
  | at_, l :: ls =>
    (match l.label with
      | some name => [(name, at_)]
      | none => []) ++ labels (if l.op.isSome then at_ + 1 else at_) ls

/-- An address operand: a label or a number (30_encoding.md R93), below 256 (R81). What is spelled like both is the
label (log 26, DESIGN CHOICE). -/
def address (table : List (Text × Nat)) (t : Text) : Option Addr :=
  match (lookup t table).or (number t) with
  | some n => if n < 256 then some (BitVec.ofNat 8 n) else none
  | none => none

/-- The instruction of an operation, its address operand resolved. -/
def resolve (p : ParamSet) (table : List (Text × Nat)) : AsmOp → Option Instr
  | .plain i => some i
  | .branch s t => (address table t).map (Instr.bst s)
  | .jump t => (address table t).map Instr.jmp
  | .settle => some (waitSettle p)

/-- The ROM image of a source, at most 256 words (20_memory.md R60). -/
def assemble (p : ParamSet) (source : List Text) : Option (List Word) := do
  let lines ← source.mapM parseLine
  let instrs ← (lines.filterMap (·.op)).mapM (resolve p (labels 0 lines))
  if instrs.length ≤ 256 then some (instrs.map encode) else none

end Sys2Proof.Machine
end

