-- ==== Sys2Proof/Tests/Slice0.lean ====
section
/-! SUPPORT. Tests: the well-formedness checks refuse ill-formed terms; words written out from 30_encoding.md R82 decode;
one-step results taken from the tables of 95_test_vectors.md; and, for every obligation with hypotheses, a concrete case
that meets them. -/

namespace Sys2Proof.Tests

open Sys2Proof Sys2Proof.Machine

/-! ### Helpers -/

/-- A state right after reset with REF0 and the control program (95_test_vectors.md P1, step 0). -/
def base : State := State.afterReset Params.ref0 (controlRom .tenMilliseconds) false Unspecified.zero

/-- `base` with another ROM. -/
def baseRom (rom : List Word) : State := { base with rom := rom }

/-- A check of the state that an operation answers. -/
def after (i : Instr) (s : State) (f : State → Bool) : Bool :=
  match exec i s with
  | .next t => f t
  | .fault _ => false
  | .refused _ => false

/-- A check of the state that a step answers. -/
def afterStep (s : State) (f : State → Bool) : Bool :=
  match step s with
  | .next t => f t
  | .fault _ => false
  | .refused _ => false

/-- REF0 with another dead zone. -/
def params10 : Params := { toParamSet := { ParamSet.ref0 with deadzone := 10 }, ok := by decide }
def params511 : Params := { toParamSet := { ParamSet.ref0 with deadzone := 511 }, ok := by decide }
def params512 : Params := { toParamSet := { ParamSet.ref0 with deadzone := 512 }, ok := by decide }

/-- REF0 with the other edge modes. -/
def paramsFalling : Params := { toParamSet := { ParamSet.ref0 with edgeMode := .falling }, ok := by decide }
def paramsAny : Params := { toParamSet := { ParamSet.ref0 with edgeMode := .anyChange }, ok := by decide }

/-- WAIT.US issued at address 0 of a one-word ROM (95_test_vectors.md 2.2, row "SEQ issue"). -/
def holdingWait : State := agentNext .seq (baseRom [0x1000])

/-- SAMPLE issued at address 0 of a one-word ROM. -/
def holdingSample : State := agentNext .seq (baseRom [0x2100])

/-- CDRUN issued at address 0 of a one-word ROM. -/
def holdingCdrun : State := agentNext .seq (baseRom [0x4300])

/-! ### Well-formedness -/

theorem test_wf_disp_refused :
    (Instr.disp 10).wellFormed = false ∧ (Instr.disp 15).wellFormed = false ∧ (Instr.disp 9).wellFormed = true := by
  decide

theorem test_wf_ref0 : ParamSet.ref0.wellFormed = true := by decide

theorem test_wf_deadzone_refused : ({ ParamSet.ref0 with deadzone := 1024 } : ParamSet).check? = none := by decide

theorem test_wf_clock_refused :
    ({ ParamSet.ref0 with fClkNum := 0 } : ParamSet).check? = none ∧
      ({ ParamSet.ref0 with fClkDen := 0 } : ParamSet).check? = none := by decide

theorem test_wf_width_refused : ({ ParamSet.ref0 with wCnt := 0 } : ParamSet).check? = none := by decide

theorem test_wf_prescale_refused : ({ ParamSet.ref0 with prescaleMs := 0 } : ParamSet).check? = none := by decide

/-- 95_test_vectors.md 2.2: 16 MHz, PRESCALE 64, US gives 0; 20 MHz, 256, S gives 78125. -/
theorem test_wf_threshold_refused :
    ({ ParamSet.ref0 with prescaleUs := 64 } : ParamSet).check? = none ∧
      ({ ParamSet.ref0 with fClkNum := 20000000, prescaleS := 256 } : ParamSet).check? = none := by decide

theorem test_wf_seg_refused :
    ({ ParamSet.ref0 with seg := [0x3F, 0x06, 0x5B, 0x4F, 0x66, 0x6D, 0x7D, 0x07, 0x7F] } : ParamSet).check? = none := by
  decide

/-- 00_scope.md R7: 50 000 ≤ F_CLK / ADC_DIV ≤ 200 000. -/
theorem test_wf_adc_band_refused :
    ({ ParamSet.ref0 with adcDiv := 64 } : ParamSet).check? = none ∧
      ({ ParamSet.ref0 with adcDiv := 512 } : ParamSet).check? = none ∧
      ({ ParamSet.ref0 with adcDiv := 0 } : ParamSet).check? = none := by decide

theorem test_wf_pwm_refused : ({ ParamSet.ref0 with pwmDiv := 0 } : ParamSet).check? = none := by decide

/-! ### Decoding: words written out from 30_encoding.md R82, `{op, sub, imm}` -/

theorem test_decode_timer :
    decodeWord 0b0001_0000_00000000 = .ok .waitUs ∧ decodeWord 0b0001_0001_00000000 = .ok .waitMs ∧
      decodeWord 0b0001_0010_00000000 = .ok .wait10ms ∧ decodeWord 0b0001_0011_00000000 = .ok .wait1s ∧
      decodeWord 0b0001_1000_00000000 = .ok .tinit := by decide

theorem test_decode_adc_motor :
    decodeWord 0b0010_0000_00000000 = .ok .adcinit ∧ decodeWord 0b0010_0001_00000000 = .ok .sample ∧
      decodeWord 0b0011_0000_00000000 = .ok .motinit ∧ decodeWord 0b0011_0001_00000000 = .ok .apply ∧
      decodeWord 0b0011_0010_00000000 = .ok .motorOff ∧ decodeWord 0b0011_0011_00000000 = .ok .motorOn := by decide

theorem test_decode_display :
    decodeWord 0b0100_0000_00000000 = .ok .dispinit ∧ decodeWord 0b0100_0001_0000_0000 = .ok (.disp 0) ∧
      decodeWord 0b0100_0001_0000_0110 = .ok (.disp 6) ∧ decodeWord 0b0100_0001_0000_1001 = .ok (.disp 9) ∧
      decodeWord 0b0100_0010_00000000 = .ok .dispClr ∧ decodeWord 0b0100_0011_00000000 = .ok .cdrun := by decide

theorem test_decode_irq_transitions :
    decodeWord 0b0101_0000_00000000 = .ok .irqinit ∧ decodeWord 0b0101_0001_00000000 = .ok .irqOff ∧
      decodeWord 0b0101_0010_00000000 = .ok .irqOn ∧ decodeWord 0b0101_0011_00000000 = .ok .gieOn ∧
      decodeWord 0b0110_0000_00000000 = .ok .strel ∧ decodeWord 0b0110_0001_00000000 = .ok .stidle := by decide

theorem test_decode_branches :
    decodeWord 0b0111_00_00_00000010 = .ok (.bst .idle 0x02) ∧
      decodeWord 0b0111_00_01_00001011 = .ok (.bst .pressed 0x0B) ∧
      decodeWord 0b0111_00_10_10101011 = .ok (.bst .released 0xAB) ∧
      decodeWord 0b0111_00_11_11111111 = .ok (.bst .cooldownActive 0xFF) ∧
      decodeWord 0b1000_0000_11111111 = .ok (.jmp 0xFF) ∧ decodeWord 0b1000_0000_00000110 = .ok (.jmp 0x06) := by decide

/-- The illegal words of 95_test_vectors.md 2.1. -/
theorem test_decode_illegal :
    ∀ w ∈ ([0x0000, 0x1400, 0x1801, 0x1900, 0x2200, 0x3400, 0x3101, 0x410A, 0x4119, 0x4301, 0x5400, 0x6200, 0x7400, 0x8106,
      0x9000, 0xF000, 0xFFFF] : List Nat), decodeTableWord 16 w = none := by decide

theorem test_encode_words :
    encode (.bst .released 0xAB) = 0x72AB ∧ encode (.disp 9) = 0x4109 ∧ encode .tinit = 0x1800 ∧
      encode (.jmp 0xFF) = 0x80FF := by decide

/-- The table's numbering: bit 0 is the least significant of the one word. -/
theorem test_decode_table_word :
    decodeTableWord 16 0x72AB = some (.bst .released 0xAB) ∧ decodeTableWord 16 0x1800 = some .tinit := by decide

/-- 20_memory.md R65: high byte first. -/
theorem test_image_bytes :
    imageBytes [0x1800, 0x2000] = [0x18, 0x00, 0x20, 0x00] ∧ imageWords [0x71, 0x0B, 0x73, 0x0E] = some [0x710B, 0x730E] ∧
      imageWords [0x71] = none ∧ decodeBytes [0x41, 0x03, 0x99] = .ok (.disp 3, [0x99]) := by decide

/-- The control program's words (95_test_vectors.md P1) from the listing of 45_control_program.md R195. -/
theorem test_assemble_loop :
    assemble ParamSet.ref0
      ["        TINIT".toList, "main:   BST Pressed, press  ; poll".toList, "smp:    SAMPLE".toList, "        JMP main".toList,
        "press:  STREL".toList, "        WAIT.SETTLE".toList, "        JMP smp".toList] =
      some [0x1800, 0x7104, 0x2100, 0x8001, 0x6000, 0x1200, 0x8002] := by decide

theorem test_assemble_operands :
    assemble ParamSet.ref0 ["DISP 9".toList, "BST 2, 0xAB".toList, "B.COOLDOWN 255".toList] = some [0x4109, 0x72AB, 0x73FF] ∧
      assemble ParamSet.ref0 ["DISP 10".toList] = none ∧ assemble ParamSet.ref0 ["JMP 256".toList] = none := by decide

/-! ### The timer (95_test_vectors.md 2.2) -/

theorem test_thresholds :
    ({ ParamSet.ref0 with prescaleUs := 1 } : ParamSet).thresh .us = 16 ∧
      ({ ParamSet.ref0 with fClkNum := 12000000 } : ParamSet).thresh .ms = 188 ∧
      ({ ParamSet.ref0 with fClkNum := 8000000 } : ParamSet).thresh .us = 1 ∧
      ({ ParamSet.ref0 with fClkNum := 1000000, prescaleMs := 3 } : ParamSet).thresh .ms = 333 ∧
      ({ ParamSet.ref0 with fClkNum := 20000000, prescaleS := 256 } : ParamSet).thresh .s = 78125 := by decide

/-- Row "SEQ issue"; and "wait entered with TFLAG = 1": the issue leaves it. -/
theorem test_waitUs_issue :
    after .waitUs base (fun t => t.trun && t.tpre = 8 && t.tcmp = 2 && t.tdiv = 0 && t.tcnt = 0 && !t.tflag && t.ph &&
      t.wrem = 1 && t.wcfg = .us && t.pc = 0) = true ∧
      after .waitUs { base with tflag := true } (fun t => t.tflag && t.ph && t.pc = 0) = true := by decide

/-- Row "SEQ step (complete)". -/
theorem test_waitUs_completes :
    after .waitUs { holdingWait with tdiv := 4, tcnt := 2, tflag := true } (fun t => !t.trun && t.tpre = 8 && t.tcmp = 2 &&
      t.tdiv = 4 && t.tcnt = 2 && !t.tflag && !t.ph && t.wrem = 0 && t.pc = 1) = true := by decide

/-- Rows "t = 1", "t = 8" and "t = 16": the 8th tick advances the counter, the 16th sets the flag. -/
theorem test_clk_ticks :
    (agentNext .clk holdingWait).tdiv = 1 ∧
      (let t := agentNext .clk { holdingWait with tdiv := 7 }; t.tdiv = 0 ∧ t.tcnt = 1 ∧ t.tflag = false) ∧
      (let t := agentNext .clk { holdingWait with tdiv := 7, tcnt := 1 }; t.tdiv = 0 ∧ t.tcnt = 2 ∧ t.tflag = true) := by
  decide

theorem test_clk_stopped : agentNext .clk base = base := by decide

/-- Free-running after the match: 65535 is followed by 0, TFLAG stays 1. -/
theorem test_clk_wraps :
    let t := agentNext .clk { holdingWait with tcnt := 65535, tdiv := 7, tflag := true }
    t.tcnt = 0 ∧ t.tflag = true := by decide

theorem test_waitMs_issue :
    after .waitMs base (fun t => t.tpre = 64 && t.tcmp = 250 && t.wrem = 1 && t.wcfg = .ms && t.ph) = true := by decide

theorem test_wait1s_issue :
    after .wait1s base (fun t => t.tpre = 1024 && t.tcmp = 15625 && t.wrem = 1 && t.wcfg = .s && t.ph) = true := by decide

theorem test_wait10ms_issue :
    after .wait10ms base (fun t => t.wcfg = .ms && t.wrem = 10 && t.tpre = 64 && t.ph && t.pc = 0) = true := by decide

/-- WREM 10 to 9 with TCNT and TDIV zeroed, TFLAG cleared, TRUN staying 1. -/
theorem test_wait10ms_subwait :
    after .wait10ms { base with ph := true, wrem := 10, wcfg := .ms, trun := true, tflag := true, tcnt := 250, tdiv := 5 }
      (fun t => t.wrem = 9 && t.tcnt = 0 && t.tdiv = 0 && !t.tflag && t.trun && t.ph && t.pc = 0) = true := by decide

theorem test_tinit :
    after .tinit { base with tcnt := 7, tdiv := 3, trun := true, tflag := true }
      (fun t => t.tcnt = 0 && t.tdiv = 0 && !t.trun && !t.tflag && t.pc = 1) = true := by decide

/-! ### The converter (95_test_vectors.md 2.3) -/

theorem test_adcinit_issue :
    after .adcinit base (fun t => t.aden && t.adsc && t.ph && t.pc = 0 && !t.adrdy) = true := by decide

/-- 0x155 is discarded. -/
theorem test_adcinit_completes :
    after .adcinit { base with ph := true, aden := true, adres := 0x0155 }
      (fun t => t.adrdy && !t.ph && t.pc = 1 && t.mag = 0) = true := by decide

theorem test_sample_issue : after .sample { base with adrdy := true } (fun t => t.adsc && t.ph && t.pc = 0) = true := by
  decide

/-- `ain_code` = 700, 0 and 1023. -/
theorem test_sample_completes :
    ∀ v ∈ [700, 0, 1023],
      after .sample { holdingSample with adsc := false, adres := BitVec.ofNat 16 v }
        (fun t => t.mag.toNat = v && !t.ph && t.pc = 1) = true := by decide

/-- ADRDY = 1: the code 700 is 0x02BC in ADRES; ADRDY = 0: the conversion still completes. -/
theorem test_adc_agent :
    (let t := agentNext (.adc 700) { holdingSample with adrdy := true }; t.adres = 0x02BC ∧ t.adsc = false ∧ t.ph = true) ∧
      (agentNext (.adc 5) holdingSample).adsc = false := by decide

/-! ### Mapper and motor (95_test_vectors.md 2.4) -/

theorem test_apply_values :
    ∀ r ∈ ([(0, .reverse, 1022), (1, .reverse, 1020), (100, .reverse, 822), (510, .reverse, 2), (511, .brake, 0),
        (512, .forward, 0), (513, .forward, 2), (700, .forward, 376), (1022, .forward, 1020), (1023, .forward, 1022)] :
        List (Nat × Direction × Nat)),
      after .apply { base with mag := BitVec.ofNat 10 r.1, men := true }
        (fun t => t.cdir = r.2.1 && t.cduty.toNat = r.2.2 && t.pc = 1) = true := by
  decide

theorem test_map_deadzone :
    dutyMap params10 0 = (.reverse, 1022) ∧ dutyMap params10 500 = (.reverse, 22) ∧ dutyMap params10 501 = (.brake, 0) ∧
      dutyMap params10 521 = (.brake, 0) ∧ dutyMap params10 522 = (.forward, 20) ∧
      dutyMap params511 0 = (.brake, 0) ∧ dutyMap params511 1022 = (.brake, 0) ∧
      dutyMap params511 1023 = (.forward, 1022) ∧ dutyMap params512 1023 = (.brake, 0) := by decide

theorem test_motinit :
    after .motinit { base with cdir := .forward, cduty := 8 }
      (fun t => t.cdir = .brake && t.cduty = 0 && t.men && !in1 t && !in2 t && dutyOut t = 0 && t.pc = 1) = true := by decide

theorem test_motor_off :
    after .motorOff { base with cdir := .reverse, cduty := 1022, men := true }
      (fun t => !in1 t && !in2 t && dutyOut t = 0 && t.cdir = .reverse && t.cduty = 1022 && !t.men && t.pc = 1) = true := by
  decide

theorem test_motor_on :
    after .motorOn { base with cdir := .reverse, cduty := 1022 }
      (fun t => !in1 t && in2 t && dutyOut t = 1022 && t.men && t.pc = 1) = true := by decide

/-- MEN = 0, MAG = 700: the command is written, the outputs stay 0. -/
theorem test_apply_gate_closed :
    after .apply { base with mag := 700 }
      (fun t => !in1 t && !in2 t && dutyOut t = 0 && t.cdir = .forward && t.cduty = 376 && !t.men) = true := by decide

theorem test_pwm :
    (agentNext .pwm { base with pcnt := 1023 }).pcnt = 0 ∧
      pwmLine { base with men := true, cduty := 1022, pcnt := 1021 } = true ∧
      pwmLine { base with men := true, cduty := 1022, pcnt := 1022 } = false ∧
      pwmLine { base with men := true, cduty := 512, pcnt := 511 } = true ∧
      pwmLine { base with men := true, cduty := 512, pcnt := 512 } = false ∧ pwmLine base = false := by decide

/-! ### Controller state, interrupt, branches (95_test_vectors.md 2.5) -/

/-- The handler's table. -/
theorem test_handler :
    ∀ r ∈ ([(.idle, .pressed), (.pressed, .pressed), (.released, .cooldownActive), (.cooldownActive, .cooldownActive)] :
        List (ControllerState × ControllerState)),
      let t := agentNext .isr { base with ipend := true, ien := true, gie := true, state := r.1 }
      t.state = r.2 ∧ t.ipend = false := by decide

theorem test_handler_not_enabled :
    (agentNext .isr { base with ien := true, gie := true }).state = .idle ∧
      (agentNext .isr { base with ipend := true, gie := true }).state = .idle ∧
      (agentNext .isr { base with ipend := true, ien := true }).ipend = true := by decide

/-- The edge detector's table: mode, BTNQ, new level, IEN, IPEND after (from 0). -/
theorem test_edges :
    ∀ r ∈ ([(Params.ref0, false, true, true, true), (Params.ref0, true, false, true, false),
        (Params.ref0, true, true, true, false), (Params.ref0, false, true, false, false),
        (paramsFalling, true, false, true, true), (paramsFalling, false, true, true, false),
        (paramsAny, false, true, true, true), (paramsAny, true, false, true, true)] :
        List (Params × Bool × Bool × Bool × Bool)),
      let t := agentNext (.btn r.2.2.1) { base with params := r.1, btnq := r.2.1, ien := r.2.2.2.1 }
      t.ipend = r.2.2.2.2 ∧ t.btnq = r.2.2.1 := by decide

theorem test_edge_merged : (agentNext (.btn true) { base with ien := true, ipend := true }).ipend = true := by decide

theorem test_strel :
    ∀ r ∈ ([(.idle, .idle), (.pressed, .released), (.released, .released), (.cooldownActive, .cooldownActive)] :
        List (ControllerState × ControllerState)),
      after .strel { base with state := r.1 } (fun t => t.state = r.2 && t.pc = 1) = true := by decide

theorem test_stidle :
    ∀ r ∈ ([(.idle, .idle), (.pressed, .pressed), (.released, .released), (.cooldownActive, .idle)] :
        List (ControllerState × ControllerState)),
      after .stidle { base with state := r.1 } (fun t => t.state = r.2 && t.pc = 1) = true := by decide

theorem test_irq_off :
    after .irqOff { base with ien := true, ipend := true } (fun t => !t.ien && !t.ipend && t.pc = 1) = true := by decide

theorem test_irq_on :
    after .irqOn base (fun t => t.ien && !t.ipend && t.pc = 1) = true ∧
      after .irqOn { base with ien := true, ipend := true } (fun t => t.ien && t.ipend) = true := by decide

theorem test_irqinit : after .irqinit { base with ipend := true } (fun t => t.ien && !t.ipend && t.pc = 1) = true := by
  decide

theorem test_gie_on : after .gieOn base (fun t => t.gie && !t.ien && t.pc = 1) = true := by decide

theorem test_bst :
    after (.bst .pressed 0x0B) { base with pc := 0x06, state := .pressed } (fun t => t.pc = 0x0B) = true ∧
      after (.bst .pressed 0x0B) { base with pc := 0x06, state := .released } (fun t => t.pc = 0x07) = true := by decide

theorem test_bst_spins : after (.bst .idle 0x20) { base with pc := 0x20 } (fun t => t.pc = 0x20) = true := by decide

theorem test_jmp :
    after (.jmp 0x06) { base with pc := 0x0A } (fun t => t.pc = 0x06) = true ∧
      after (.jmp 0x03) { base with pc := 0x03 } (fun t => t.pc = 0x03) = true := by decide

/-! ### Display (95_test_vectors.md 2.6) -/

theorem test_disp :
    ∀ r ∈ [(0, 0x3F), (3, 0x4F), (9, 0x6F)],
      after (.disp (BitVec.ofNat 4 r.1)) { base with cdig := 5 }
        (fun t => t.segout.toNat = r.2 && t.cdig = 5 && t.pc = 1) = true := by decide

theorem test_dispinit : after .dispinit { base with segout := 0x7F } (fun t => t.segout = 0x00 && t.pc = 1) = true := by
  decide

theorem test_disp_clr : after .dispClr { base with segout := 0x7F } (fun t => t.segout = 0x00 && t.pc = 1) = true := by
  decide

/-- 95_test_vectors.md P1, step 22. -/
theorem test_cdrun_issue :
    after .cdrun { base with pc := 0x10 } (fun t => t.cdig = 9 && t.segout = 0x6F && t.tpre = 1024 && t.tcmp = 15625 &&
      t.trun && t.ph && t.pc = 0x10) = true := by decide

/-- The digit after 1, and the clear after 0. -/
theorem test_cdrun_end :
    after .cdrun { holdingCdrun with cdig := 1, tflag := true }
        (fun t => t.segout = 0x3F && t.cdig = 0 && t.trun && !t.tflag && t.ph) = true ∧
      after .cdrun { holdingCdrun with cdig := 0, tflag := true }
        (fun t => t.segout = 0x00 && t.cdig = 0 && !t.trun && !t.tflag && !t.ph && t.pc = 1) = true := by decide

theorem test_countdown_writes :
    countdownWrites Params.ref0 = [0x6F, 0x7F, 0x07, 0x7D, 0x6D, 0x66, 0x4F, 0x5B, 0x06, 0x3F, 0x00] := by decide

/-! ### Faults and reset (95_test_vectors.md 2.7) -/

theorem test_illegal_op :
    let s := { baseRom [0x1800, 0x2000, 0x3000, 0x5000, 0x4000, 0x410A] with pc := 0x05 }
    let t := agentNext .seq s
    t.fault = true ∧ t.fcause.code = 1 ∧ t.pc = 0x05 ∧ t.segout = 0x00 ∧ agentNext .seq t = t := by decide

/-- Also P5's fetch at 0xFF of a three-word ROM. -/
theorem test_fetch_out_of_rom :
    (let t := agentNext .seq { base with pc := 0x15 }; t.fault = true ∧ t.fcause.code = 2 ∧ t.pc = 0x15) ∧
      (let t := agentNext .seq { baseRom [0x3000, 0x80FF, 0x0000] with pc := 0xFF }; t.fcause.code = 2 ∧ t.pc = 0xFF) := by
  decide

theorem test_isr_after_fault :
    let t := agentNext .isr { base with fault := true, fcause := .illegalOp, ipend := true, ien := true, gie := true }
    t.state = .pressed ∧ t.ipend = false ∧ t.fault = true := by decide

theorem test_reset_in_a_wait :
    let t := agentNext (.rst true) { holdingWait with state := .released, men := true, segout := 0x7F }
    t.pc = 0 ∧ t.ph = false ∧ t.trun = false ∧ t.tflag = false ∧ t.state = .idle ∧ t.men = false ∧ t.segout = 0x00 ∧
      t.fault = false ∧ t.btnq = true := by decide

/-! ### Steps -/

/-- A step runs the placed word first, from the real reset state too. -/
theorem test_with_fetch_word :
    afterStep (base.withFetchWord 16 0x72AB) (fun t => t.pc = 1) = true ∧
      afterStep (base.withFetchWord 16 0x4103) (fun t => t.segout = 0x4F) = true ∧
      afterStep (State.reset.withFetchWord 16 0x80FF) (fun t => t.pc = 0xFF) = true := by decide

/-- The listed moves are taken in order. -/
theorem test_step_takes_moves :
    afterStep { base with moves := [.pwm, .seq] } (fun t => t.pcnt = 1 && t.moves = [.seq] && t.pc = 0) = true := by decide

/-! ### Witnesses: for every obligation with hypotheses, cases that meet them -/

/-- The invariants hold in `base` with a ROM that has WAIT.US, CDRUN or any word at 0. -/
theorem inv_baseRom (rom : List Word) (h : Memory.wf rom = true) : Inv (baseRom rom) where
  pendingNeedsEnable := by intro _; rfl
  idleTimer := by intro _; exact ⟨rfl, rfl⟩
  runningTimer := by intro h; cases h
  conversion := by intro h; cases h
  dutyEven := (by decide : base.cduty.toNat % 2 = 0 ∧ base.cduty.toNat ≤ 1022 ∧ base.cdir.code ≠ 0b11#2)
  brakeZero := by intro _; rfl
  faultAtIssue := by intro h; cases h
  causeWithFault := (by decide : base.fault = true ↔ base.fcause ≠ .none)
  holdBlocks := by intro h; cases h
  holdTimer := by intro h; cases h
  flagRuns := by intro h; cases h
  runningConfig := by intro h; cases h
  phaseBelow := by intro h; cases h
  countBelow := by intro h; cases h
  tcuWidths := (by decide : base.tcnt < 2 ^ base.params.wCnt ∧ base.tcmp < 2 ^ base.params.wCnt ∧
    base.tpre < 2 ^ base.params.preWidth ∧ base.tdiv < 2 ^ base.params.preWidth)
  waitCount := by intro _ h; cases h
  countdownDigit := by intro h; cases h
  resultAdjusted := (by decide : base.adres.extractLsb' 10 6 = 0#6)
  readyEnabled := by intro h; cases h
  adcinitEnabled := by intro h; cases h
  romFits := h

theorem inv_base : Inv base := inv_baseRom _ rfl

/-- The invariants hold while WAIT.US holds. -/
theorem inv_holdingWait : Inv holdingWait where
  pendingNeedsEnable := by decide
  idleTimer := by decide
  runningTimer := fun _ => ⟨by decide, .waitUs, by decide, by decide⟩
  conversion := by intro h; cases h
  dutyEven := by decide
  brakeZero := by decide
  faultAtIssue := by decide
  causeWithFault := by decide
  holdBlocks := fun _ => ⟨.waitUs, by decide, by decide⟩
  holdTimer := fun _ _ => by decide
  flagRuns := by decide
  runningConfig := fun _ => ⟨.us, by decide, by decide⟩
  phaseBelow := by decide
  countBelow := by decide
  tcuWidths := by decide
  waitCount := by intro k; cases k <;> decide
  countdownDigit := by decide
  resultAdjusted := by decide
  readyEnabled := by decide
  adcinitEnabled := by decide
  romFits := by decide

theorem controlInv_base : ControlInv base where
  inv := inv_base
  listing := by decide
  noFault := by decide
  inside := by decide
  irqOff := by decide
  gateClosed := by decide
  gateOpen := by decide
  cooling := by decide
  cooled := by decide
  trusted := by decide
  global := by decide

/-- `base` in the loop of the control program, at `a` with STATE = `c` and SEQ to move. -/
def loopAt (a : Addr) (c : ControllerState) : State :=
  { base with
    pc := a, state := c, men := true, aden := true, adrdy := true, ien := true, gie := true, moves := [.seq] }

theorem inv_loopAt (a : Addr) (c : ControllerState) : Inv (loopAt a c) where
  pendingNeedsEnable := by intro h; cases h
  idleTimer := by intro _; exact ⟨rfl, rfl⟩
  runningTimer := by intro h; cases h
  conversion := by intro h; cases h
  dutyEven := inv_base.dutyEven
  brakeZero := by intro _; rfl
  faultAtIssue := by intro h; cases h
  causeWithFault := inv_base.causeWithFault
  holdBlocks := by intro h; cases h
  holdTimer := by intro h; cases h
  flagRuns := by intro h; cases h
  runningConfig := by intro h; cases h
  phaseBelow := by intro h; cases h
  countBelow := by intro h; cases h
  tcuWidths := inv_base.tcuWidths
  waitCount := by intro _ h; cases h
  countdownDigit := by intro h; cases h
  resultAdjusted := inv_base.resultAdjusted
  readyEnabled := by intro _; rfl
  adcinitEnabled := by intro h; cases h
  romFits := inv_base.romFits

/-- The two polls of the loop, about to be taken. -/
theorem controlInv_loopAt :
    ControlInv (loopAt 0x06 .pressed) ∧ ControlInv (loopAt 0x07 .cooldownActive) := by
  constructor <;> constructor <;> first | exact inv_loopAt _ _ | decide

theorem witness_DecodeOfEncodeIsIdentity :
    (Instr.disp 0).wellFormed = true ∧ (Instr.disp 9).wellFormed = true ∧
      (Instr.bst .cooldownActive 0xFF).wellFormed = true ∧ (Instr.jmp 0xFF).wellFormed = true := by decide

theorem witness_EncodeOfDecodeIsIdentity :
    decodeWord 0x4109 = .ok (.disp 9) ∧ decodeWord 0x73FF = .ok (.bst .cooldownActive 0xFF) := by decide

theorem witness_IllegalWordsFaultAtIssue :
    (∃ r, decodeWord 0x410A = .error r) ∧ illegalByFields 0x410A = true ∧
      (baseRom [0x0000]).fault = false ∧ (baseRom [0x0000]).ph = false ∧
      romRead (baseRom [0x0000]) (baseRom [0x0000]).pc = some 0x0000 ∧ illegalByFields 0x0000 = true :=
  ⟨⟨.notADigit, by decide⟩, by decide⟩

theorem witness_RomImageBytesRoundTrip : imageWords [0x71, 0x0B] = some [0x710B] := by decide

theorem witness_StepRunsTheDecodedOperation :
    ({ base with moves := [.pwm, .seq] }).moves = .pwm :: [.seq] ∧ base.moves = [] ∧
      ({ base with moves := [.seq] }).moves = .seq :: [] ∧ base.fault = false ∧ base.ph = false ∧
      romRead { base with moves := [.seq] } base.pc = some 0x1800 ∧ decodeWord 0x1800 = .ok .tinit := by decide

theorem witness_SequencerStep_outOfRom :
    ({ base with pc := 0x15 }).fault = false ∧ ({ base with pc := 0x15 }).ph = false ∧ base.rom.length ≤ 0x15 := by decide

theorem witness_SequencerStep_illegal :
    (baseRom [0xFFFF]).fault = false ∧ (baseRom [0xFFFF]).ph = false ∧ (baseRom [0xFFFF]).rom[0]? = some 0xFFFF ∧
      decodeWord 0xFFFF = .error .unusedGroup := by decide

theorem witness_SequencerStep_issue_and_hold :
    base.fault = false ∧ base.rom[0]? = some 0x1800 ∧ decodeWord 0x1800 = .ok .tinit ∧ base.ph = false ∧
      holdingWait.fault = false ∧ holdingWait.rom[0]? = some 0x1000 ∧ decodeWord 0x1000 = .ok .waitUs ∧
      holdingWait.ph = true ∧ blocking .waitUs = true := by decide

theorem witness_SequencerStep_stuck :
    ({ base with fault := true }).fault = true ∧
      agentStep .seq { base with fault := true } = .next { base with fault := true } := ⟨rfl, rfl⟩

/-- A fault raised, a fault kept, and a reset that clears it. -/
theorem witness_FaultIsSticky :
    (∃ t, agentStep .seq (baseRom [0x0000]) = .next t ∧ t.fault = true ∧ t.fcause ≠ (baseRom [0x0000]).fcause) ∧
      (∃ t, agentStep .clk { base with fault := true, fcause := .illegalOp } = .next t ∧ isRst .clk = false) ∧
      ∃ t, agentStep (.rst true) { base with fault := true } = .next t ∧ isRst (.rst true) = true :=
  ⟨⟨_, rfl, by decide, by decide⟩, ⟨_, rfl, rfl⟩, ⟨_, rfl, rfl⟩⟩

/-- Each way PC moves or stays. -/
theorem witness_OnlyBranchesRedirectPc :
    (∃ t, exec (.jmp 0) base = .next t ∧ t.pc = base.pc) ∧ (∃ t, exec (.bst .idle 0xFF) base = .next t ∧ t.pc = 0xFF) ∧
      (∃ t, exec .tinit { base with pc := 0xFF } = .next t ∧ t.pc = 0) ∧
      ∃ t, exec .waitUs base = .next t ∧ t.pc = base.pc :=
  ⟨⟨_, rfl, by decide⟩, ⟨_, rfl, by decide⟩, ⟨_, rfl, by decide⟩, ⟨_, rfl, by decide⟩⟩

theorem witness_HoldAnswersTheSameState :
    holdingWait.ph = true ∧ holdingWait.tflag = false ∧ holdingSample.ph = true ∧ holdingSample.adsc = true := by decide

/-- For each register a step that changes it. -/
theorem witness_EachRegisterHasItsWriters_seq :
    (agentNext .seq base).pc ≠ base.pc ∧ holdingWait.ph ≠ (baseRom [0x1000]).ph ∧
      holdingWait.wrem ≠ (baseRom [0x1000]).wrem ∧ (agentNext .seq (baseRom [0x1300])).wcfg ≠ (baseRom [0x1300]).wcfg ∧
      (agentNext .seq (baseRom [0x0000])).fault ≠ (baseRom [0x0000]).fault ∧
      (agentNext .seq (baseRom [0x0000])).fcause ≠ (baseRom [0x0000]).fcause ∧
      (agentNext .seq { holdingSample with adsc := false, adres := 1 }).mag ≠ holdingSample.mag ∧
      (agentNext .seq (baseRom [0x2000])).aden ≠ (baseRom [0x2000]).aden ∧
      (agentNext .seq { baseRom [0x2000] with ph := true }).adrdy ≠ (baseRom [0x2000]).adrdy ∧
      holdingSample.adsc ≠ (baseRom [0x2100]).adsc ∧
      (agentNext .seq (baseRom [0x3100])).cdir ≠ (baseRom [0x3100]).cdir ∧
      (agentNext .seq (baseRom [0x3000])).men ≠ (baseRom [0x3000]).men ∧
      (agentNext .seq { baseRom [0x6000] with state := .pressed }).state ≠ .pressed ∧
      (agentNext .seq (baseRom [0x5000])).ien ≠ (baseRom [0x5000]).ien ∧
      (agentNext .seq (baseRom [0x5300])).gie ≠ (baseRom [0x5300]).gie ∧
      (agentNext .seq { baseRom [0x5100] with ipend := true }).ipend ≠ true ∧
      holdingWait.trun ≠ (baseRom [0x1000]).trun ∧ holdingWait.tpre ≠ (baseRom [0x1000]).tpre ∧
      (agentNext .seq { holdingWait with tflag := true }).tflag ≠ true ∧
      holdingCdrun.cdig ≠ (baseRom [0x4300]).cdig ∧ holdingCdrun.segout ≠ (baseRom [0x4300]).segout := by decide

theorem witness_EachRegisterHasItsWriters_agents :
    (agentNext .pwm base).pcnt ≠ base.pcnt ∧ (agentNext .clk holdingWait).tdiv ≠ holdingWait.tdiv ∧
      (agentNext .clk { holdingWait with tdiv := 7, tcnt := 1 }).tflag ≠ holdingWait.tflag ∧
      (agentNext (.adc 5) { holdingSample with adrdy := true }).adres ≠ holdingSample.adres ∧
      (agentNext (.btn true) { base with ien := true }).ipend ≠ base.ipend ∧
      (agentNext (.btn true) base).btnq ≠ base.btnq ∧
      (agentNext .isr { base with ipend := true, ien := true, gie := true }).state ≠ base.state := by decide

theorem witness_RomIsNeverWritten :
    (∃ t, step { base with moves := [.seq] } = .next t) ∧ ∃ t, exec .tinit base = .next t :=
  ⟨⟨_, rfl⟩, ⟨_, rfl⟩⟩

/-- The four phases, the third and fourth at the two ends of WREM's count. -/
theorem witness_WaitEngineSteps :
    (Instr.wait10ms, TimerCfg.ms, 10#4) ∈
        [(Instr.waitUs, TimerCfg.us, 1#4), (.waitMs, .ms, 1#4), (.wait10ms, .ms, 10#4), (.wait1s, .s, 1#4)] ∧
      base.ph = false ∧ holdingWait.ph = true ∧ holdingWait.tflag = false ∧
      ({ holdingWait with tflag := true }).tflag = true ∧ holdingWait.wrem = 1 ∧
      ({ holdingWait with wrem := 10 }).wrem ≠ 1 ∧ ({ holdingWait with wrem := 2 }).wrem ≠ 0 := by decide

/-- The four cases, the first with the wrap of the counter as well as at the match. -/
theorem witness_ClkTick :
    (let s := { holdingWait with tdiv := 7, tcnt := 1 };
      s.trun = true ∧ s.tdiv + 1 = s.tpre ∧ (s.tcnt + 1) % 2 ^ s.params.wCnt = s.tcmp) ∧
    (let s := { holdingWait with tdiv := 7, tcnt := 65535 };
      s.trun = true ∧ s.tdiv + 1 = s.tpre ∧ (s.tcnt + 1) % 2 ^ s.params.wCnt ≠ s.tcmp) ∧
    (holdingWait.trun = true ∧ holdingWait.tdiv + 1 ≠ holdingWait.tpre) ∧ base.trun = false := by decide

theorem witness_ThresholdFormula :
    0 < ParamSet.ref0.fClkDen ∧ 0 < ParamSet.ref0.prescale .us ∧
      ({ ParamSet.ref0 with prescaleUs := 64 } : ParamSet).thresh .us < 1 ∧
      2 ^ 16 - 1 < ({ ParamSet.ref0 with fClkNum := 20000000, prescaleS := 256 } : ParamSet).thresh .s := by decide

theorem witness_TimerFlagAtTheExactTick :
    base.tflag = false ∧ ∀ m ∈ [Move.clk, .pwm, .isr, .adc 3, .btn true], m ≠ .seq ∧ isRst m = false := by decide

theorem witness_WaitDurationLowerBound :
    Inv (baseRom [0x1000]) ∧ (baseRom [0x1000]).fault = false ∧ (baseRom [0x1000]).ph = false ∧
      opAt (baseRom [0x1000]) = some (WaitKind.instr .microsecond) ∧
      (∀ m ∈ .seq :: (List.replicate 16 Move.clk ++ [.seq]), isRst m = false) ∧
      (runMoves (.seq :: (List.replicate 16 Move.clk ++ [.seq])) (baseRom [0x1000])).pc ≠ (baseRom [0x1000]).pc :=
  ⟨inv_baseRom _ rfl, by decide⟩

theorem witness_WaitCompletesOnAPromptSchedule :
    (baseRom [0x1200]).fault = false ∧ (baseRom [0x1200]).ph = false ∧ (baseRom [0x1200]).tflag = false ∧
      opAt (baseRom [0x1200]) = some (WaitKind.instr .tenMilliseconds) := by decide

theorem witness_TimedHoldLastsWithoutTicks :
    holdingWait.fault = false ∧ holdingWait.ph = true ∧ opIs holdsForTimer holdingWait ∧ holdingWait.tflag = false ∧
      ∀ m ∈ [Move.seq, .pwm, .isr, .adc 3, .btn true], m ≠ .clk ∧ isRst m = false :=
  ⟨by decide, by decide, ⟨.waitUs, by decide, by decide⟩, by decide, by decide⟩

/-- A tick, a conversion step and a SEQ step in turn. -/
def roundRobin (n : Nat) : Move := if n % 3 = 0 then .clk else if n % 3 = 1 then .adc 0 else .seq

theorem witness_EveryHoldEndsUnderFairness :
    Inv holdingWait ∧ holdingWait.fault = false ∧ holdingWait.ph = true ∧ (∀ n, isRst (roundRobin n) = false) ∧
      clkLive roundRobin ∧ adcLive roundRobin holdingWait ∧ seqLive roundRobin holdingWait := by
  refine ⟨inv_holdingWait, by decide, by decide, ?_, ?_, ?_, ?_⟩
  · intro n
    unfold roundRobin
    split
    · rfl
    · split <;> rfl
  · exact fun n => ⟨3 * n, by omega, by simp [roundRobin]⟩
  · exact fun n _ => ⟨3 * n + 1, by omega, by simp [roundRobin, Nat.add_mod, isAdc]⟩
  · exact fun n _ => ⟨3 * n + 2, by omega, by simp [roundRobin, Nat.add_mod]⟩

theorem witness_AdcinitPhases :
    base.ph = false ∧ holdingSample.ph = true ∧ holdingSample.adsc = true ∧
      exec .adcinit holdingSample = .next holdingSample ∧ ({ holdingSample with adsc := false }).adsc = false :=
  ⟨rfl, by decide, by decide, rfl, rfl⟩

theorem witness_SamplePhases :
    base.ph = false ∧ holdingSample.ph = true ∧ holdingSample.adsc = true ∧
      exec .sample holdingSample = .next holdingSample ∧ ({ holdingSample with adsc := false }).adsc = false :=
  ⟨rfl, by decide, by decide, rfl, rfl⟩

theorem witness_ConversionCompletion :
    holdingSample.adsc = true ∧ holdingSample.adrdy = false ∧ ({ holdingSample with adrdy := true }).adrdy = true ∧
      base.adsc = false ∧ agentStep (.adc 1023) base = .next base :=
  ⟨by decide, by decide, rfl, rfl, rfl⟩

theorem witness_SampleAndApplyDriveTheMotor :
    let s := { baseRom [0x2100, 0x3100] with men := true, adrdy := true }
    s.fault = false ∧ s.ph = false ∧ s.men = true ∧ s.adrdy = true ∧ s.params.deadzone = 0 ∧
      romRead s s.pc = some 0x2100 ∧ romRead s (s.pc + 1) = some 0x3100 := by decide

theorem witness_StuckConversionKeepsTheMotorCommand :
    holdingSample.fault = false ∧ holdingSample.ph = true ∧ opIs holdsForAdc holdingSample ∧ holdingSample.adsc = true ∧
      ∀ m ∈ [Move.seq, .pwm, .isr, .clk, .btn true], isAdc m = false ∧ isRst m = false :=
  ⟨by decide, by decide, ⟨.sample, by decide, by decide⟩, by decide, by decide⟩

/-- The three cases at their boundaries, with DEADZONE 0 and 10. -/
theorem witness_ApplyResult :
    (let s := { base with mag := 510 }; (s.mag.toNat : Int) < 511 - (s.params.deadzone : Int)) ∧
    (let s := { base with mag := 512 }; (s.mag.toNat : Int) > 511 + (s.params.deadzone : Int)) ∧
    (let s := { base with mag := 511 };
      ¬ (s.mag.toNat : Int) < 511 - (s.params.deadzone : Int) ∧ ¬ (s.mag.toNat : Int) > 511 + (s.params.deadzone : Int)) ∧
    (let s := { base with mag := 501, params := params10 };
      ¬ (s.mag.toNat : Int) < 511 - (s.params.deadzone : Int) ∧ ¬ (s.mag.toNat : Int) > 511 + (s.params.deadzone : Int)) ∧
    (let s := { base with mag := 522, params := params10 }; (s.mag.toNat : Int) > 511 + (s.params.deadzone : Int)) := by
  decide

theorem witness_MapperWithoutDeadzone :
    Params.ref0.deadzone = 0 ∧ (510 : BitVec 10).toNat < 511 ∧ 511 < (512 : BitVec 10).toNat ∧
      (509 : BitVec 10).toNat < (510 : BitVec 10).toNat ∧ (512 : BitVec 10).toNat < (1023 : BitVec 10).toNat := by decide

theorem witness_DutyRangeAndAsymmetry : Params.ref0.deadzone = 0 := by decide

theorem witness_DeadzoneBandIsBrake :
    (dutyMap params10 501).1 = .brake ∧ 512 ≤ params512.deadzone ∧ params511.deadzone = 511 ∧
      (1022 : BitVec 10).toNat ≠ 1023 ∧ (500 : BitVec 10).toNat + params10.deadzone = 510 ∧
      (522 : BitVec 10).toNat = 512 + params10.deadzone := by decide

theorem witness_PwmCounterReachesOnlyThePwmLine : ∃ t, agentStep .pwm base = .next t := ⟨_, rfl⟩

theorem witness_DriverFollowsTheOutputs :
    (let s := { base with men := true, cdir := .forward }; s.men = true ∧ s.cdir ≠ .brake) ∧
      base.men = false ∧ base.cdir = .brake := by decide

theorem witness_DisplayWrites :
    (0 : BitVec 4).toNat ≤ 9 ∧ (9 : BitVec 4).toNat ≤ 9 ∧ 9 < (10 : BitVec 4).toNat ∧ (baseRom [0x410A]).fault = false ∧
      (baseRom [0x410A]).ph = false ∧ romRead (baseRom [0x410A]) 0 = some (0x4100 + (10 : BitVec 4).setWidth 16) := by decide

theorem witness_CdrunPhases :
    base.ph = false ∧ holdingCdrun.ph = true ∧ holdingCdrun.tflag = false ∧
      exec .cdrun holdingCdrun = .next holdingCdrun ∧ ({ holdingCdrun with tflag := true }).tflag = true ∧
      0 < holdingCdrun.cdig.toNat ∧ holdingCdrun.cdig.toNat ≤ 9 ∧ ({ holdingCdrun with cdig := 0 }).cdig = 0 :=
  ⟨rfl, by decide, by decide, rfl, rfl, by decide, by decide, rfl⟩

theorem witness_CdrunWritesTenDigitsThenTheBlank :
    Inv (baseRom [0x4300]) ∧ (baseRom [0x4300]).fault = false ∧ (baseRom [0x4300]).ph = false ∧
      opAt (baseRom [0x4300]) = some .cdrun ∧ (∀ m ∈ [Move.seq, .clk, .seq], isRst m = false) ∧
      (∀ k < [Move.seq, .clk, .seq].length,
        (runMoves ([Move.seq, .clk, .seq].take k) (baseRom [0x4300])).pc = (baseRom [0x4300]).pc) :=
  ⟨inv_baseRom _ rfl, by decide⟩

/-- The last two display writes, each at a state in which TFLAG has come: the digit 0, and the blank. -/
theorem witness_CdrunWrites_last :
    displayWrite .seq { holdingCdrun with tflag := true, cdig := 0 } = some 0x00 ∧
      displayWrite .seq { holdingCdrun with tflag := true, cdig := 1 } = some 0x3F := by decide

/-- A slow clock of 500 kHz: every threshold is 1 and a second is 500 000 ticks. -/
def paramsSlow : Params :=
  { toParamSet :=
      { ParamSet.ref0 with
        fClkNum := 500000, prescaleUs := 1, prescaleMs := 500, prescaleS := 500000, adcDiv := 5 },
    ok := by decide }

/-- CDRUN at address 0 on the slow clock, not issued. -/
def slowCdrun : State := State.afterReset paramsSlow [0x4300] false Unspecified.zero

/-- CDRUN holding at digit `d` on the slow clock, its second just begun. -/
def slowHold (d : BitVec 4) : State :=
  { agentNext .seq slowCdrun with cdig := d, segout := segRead paramsSlow d }

/-- `n` ticks, one more, and the SEQ step that takes the flag. -/
def second (n : Nat) : List Move := List.replicate n .clk ++ [.clk, .seq]

/-- CDRUN's issue and ten such seconds. -/
def countdownMoves (n : Nat) : List Move := .seq :: (List.replicate 10 (second n)).flatten

theorem countdownMoves_noRst (n : Nat) : ∀ m ∈ countdownMoves n, isRst m = false := by
  intro m hm
  simp only [countdownMoves, second, List.mem_cons, List.mem_flatten, List.mem_replicate] at hm
  obtain rfl | ⟨_, ⟨-, rfl⟩, hm⟩ := hm
  · rfl
  · simp only [List.mem_append, List.mem_replicate, List.mem_cons, List.not_mem_nil, or_false] at hm
    obtain ⟨-, rfl⟩ | rfl | rfl := hm <;> rfl

theorem runMoves_second (n : Nat) (hn : n < 500000) (d : BitVec 4) (ms : List Move) :
    runMoves (second n ++ ms) (slowHold d) = runMoves ms (runMoves [.clk, .seq] { slowHold d with tdiv := n }) := by
  have h := ticks_within_phase n (slowHold d) rfl (by show 0 + n < 500000; omega)
  rw [show (slowHold d).tdiv = 0 from rfl, Nat.zero_add] at h
  rw [second, List.append_assoc, runMoves_append, h, runMoves_append]

theorem slowHold_digit :
    ∀ d ∈ [1, 2, 3, 4, 5, 6, 7, 8, 9],
      runMoves [.clk, .seq] { slowHold (BitVec.ofNat 4 d) with tdiv := 499999 } = slowHold (BitVec.ofNat 4 (d - 1)) := by
  decide

/-- The whole countdown runs to its end on the slow clock. -/
theorem countdownMoves_completes (n : Nat) (hn : n = 499999) : (runMoves (countdownMoves n) slowCdrun).pc = 1 := by
  have h (d : Nat) (hd : d ∈ [1, 2, 3, 4, 5, 6, 7, 8, 9]) (ms : List Move) :
      runMoves (second n ++ ms) (slowHold (BitVec.ofNat 4 d)) = runMoves ms (slowHold (BitVec.ofNat 4 (d - 1))) := by
    rw [runMoves_second n (by omega), hn, slowHold_digit d hd]
  rw [countdownMoves, runMoves_cons, show agentNext .seq slowCdrun = slowHold (BitVec.ofNat 4 9) by decide]
  simp only [List.replicate_succ, List.replicate_zero, List.flatten_cons, List.flatten_nil]
  iterate 9 rw [h _ (by decide)]
  rw [runMoves_second n (by omega), hn]
  decide

/-- The invariants do not depend on the clock: `slowCdrun` meets them. -/
theorem inv_slowCdrun : Inv slowCdrun where
  pendingNeedsEnable := by intro _; rfl
  idleTimer := by intro _; exact ⟨rfl, rfl⟩
  runningTimer := by intro h; cases h
  conversion := by intro h; cases h
  dutyEven := by decide
  brakeZero := by intro _; rfl
  faultAtIssue := by intro h; cases h
  causeWithFault := by decide
  holdBlocks := by intro h; cases h
  holdTimer := by intro h; cases h
  flagRuns := by intro h; cases h
  runningConfig := by intro h; cases h
  phaseBelow := by intro h; cases h
  countBelow := by intro h; cases h
  tcuWidths := by decide
  waitCount := by intro _ h; cases h
  countdownDigit := by intro h; cases h
  resultAdjusted := by decide
  readyEnabled := by intro h; cases h
  adcinitEnabled := by intro h; cases h
  romFits := by decide

/-- The first clause after the issue's write; the second by a whole countdown, ten seconds of 500 000 ticks. -/
theorem witness_CountdownDurationLowerBound :
    Inv slowCdrun ∧ slowCdrun.fault = false ∧ slowCdrun.ph = false ∧ opAt slowCdrun = some .cdrun ∧
      ((∀ m ∈ [] ++ Move.seq :: [.clk, .seq], isRst m = false) ∧
        (∀ k < ([] ++ Move.seq :: [.clk, .seq]).length,
          (runMoves (([] ++ Move.seq :: [.clk, .seq]).take k) slowCdrun).pc = slowCdrun.pc) ∧
        displayWrite .seq (runMoves [] slowCdrun) ≠ none) ∧
      (∀ m ∈ countdownMoves 499999, isRst m = false) ∧
      (runMoves (countdownMoves 499999) slowCdrun).pc ≠ slowCdrun.pc :=
  ⟨inv_slowCdrun, by decide, by decide, by decide, by decide, countdownMoves_noRst _, by
    rw [countdownMoves_completes _ rfl]; decide⟩

/-- A step that writes the display, one that does not, and moves of both kinds. -/
theorem witness_SegoutHoldsTheLastDisplayWrite :
    (∃ t, agentStep .seq (baseRom [0x4109]) = .next t ∧ displayWrite .seq (baseRom [0x4109]) = some 0x6F) ∧
      (∃ t, agentStep .clk base = .next t ∧ displayWrite .clk base = none) ∧
      ∀ m ∈ [Move.seq, .clk, .btn true], isRst m = false :=
  ⟨⟨_, rfl, by decide⟩, ⟨_, rfl, by decide⟩, by decide⟩

theorem witness_MainLoopTransitions :
    ({ base with state := .pressed }).state = .pressed ∧ base.state ≠ .pressed ∧
      ({ base with state := .cooldownActive }).state = .cooldownActive ∧ base.state ≠ .cooldownActive := by decide

theorem witness_BranchAndJump : base.state = .idle ∧ base.state ≠ .cooldownActive := by decide

theorem witness_HandlerStep :
    (let s := { base with ipend := true, ien := true, gie := true };
      s.ipend = true ∧ s.ien = true ∧ s.gie = true ∧ s.state = .idle) ∧
      ({ base with state := .released }).state = .released ∧
      ({ base with state := .cooldownActive }).state = .cooldownActive ∧
      base.ipend = false ∧ agentStep .isr base = .next base :=
  ⟨by decide, rfl, rfl, rfl, rfl⟩

/-- An edge and no edge in each mode. -/
theorem witness_EdgeDetector :
    (base.params.edgeMode = .rising ∧ base.btnq = false ∧ ({ base with ien := true }).ien = true) ∧
      (let s := { base with params := paramsFalling, btnq := true }; s.params.edgeMode = .falling ∧ s.btnq = true) ∧
      (let s := { base with params := paramsAny }; s.params.edgeMode = .anyChange ∧ s.btnq ≠ true) ∧ base.ien = false := by
  decide

/-- The four transitions. -/
theorem witness_StateMovesOnlyInItsCycle :
    (∃ t, agentStep .isr { base with ipend := true, ien := true, gie := true } = .next t ∧ t.state = .pressed) ∧
      (∃ t, agentStep .isr { base with ipend := true, ien := true, gie := true, state := .released } = .next t ∧
        t.state = .cooldownActive) ∧
      (∃ t, agentStep .seq { baseRom [0x6000] with state := .pressed } = .next t ∧ t.state = .released) ∧
      ∃ t, agentStep .seq { baseRom [0x6100] with state := .cooldownActive } = .next t ∧ t.state = .idle :=
  ⟨⟨_, rfl, by decide⟩, ⟨_, rfl, by decide⟩, ⟨_, rfl, by decide⟩, ⟨_, rfl, by decide⟩⟩

theorem witness_OnlyTheHandlerMovesStateBetweenReads :
    (∀ m ∈ [Move.btn true, .isr, .btn false, .btn true, .isr], m ≠ .seq ∧ isRst m = false) ∧
      (runMoves [.btn true, .isr, .btn false, .btn true, .isr] { base with ien := true, gie := true }).state = .pressed := by
  decide

theorem witness_EdgesWhileDisabledAreLost :
    Inv base ∧ base.ien = false ∧ (∀ m ∈ [Move.btn true, .isr], m ≠ .seq ∧ isRst m = false) ∧
      ∃ u, exec .irqOn (runMoves [.btn true, .isr] base) = .next u :=
  ⟨inv_base, by decide, by decide, ⟨_, rfl⟩⟩

theorem witness_ResetRegisters :
    (State.reset = State.reset ∧ Config.btnAtReset = Config.btnAtReset) ∧
      ∃ t, agentStep (.rst true) holdingWait = .next t := ⟨⟨rfl, rfl⟩, ⟨_, rfl⟩⟩

/-- Two states that differ in what was in progress. -/
theorem witness_ResetStep :
    holdingWait.rom = (baseRom [0x1000]).rom ∧ holdingWait.params = (baseRom [0x1000]).params ∧
      holdingWait.moves = (baseRom [0x1000]).moves ∧ holdingWait.draws = (baseRom [0x1000]).draws ∧
      holdingWait ≠ baseRom [0x1000] := by decide

theorem witness_ResetPorts :
    State.reset = State.reset ∧ ∃ t, agentStep (.rst false) (loopAt 0x06 .pressed) = .next t := ⟨rfl, ⟨_, rfl⟩⟩

theorem witness_InvariantKeptByEveryStep :
    (Inv base ∧ ∃ t, step base = .next t) ∧ Inv holdingWait ∧ ∃ t, step holdingWait = .next t :=
  ⟨⟨inv_base, by unfold step; cases (takeMove base).1 <;> exact ⟨_, rfl⟩⟩, inv_holdingWait,
    by unfold step; cases (takeMove holdingWait).1 <;> exact ⟨_, rfl⟩⟩

theorem witness_ControlProgramInvariantKept :
    ControlInv (loopAt 0x06 .pressed) ∧ ∃ t, step (loopAt 0x06 .pressed) = .next t :=
  ⟨controlInv_loopAt.1, ⟨_, rfl⟩⟩

/-- A step from reset, and both branches into the handling segments taken. -/
theorem witness_ControlProgramFlow :
    (ControlInv base ∧ isRst .seq = false ∧ ∃ t, agentStep .seq base = .next t) ∧
      (ControlInv (loopAt 0x06 .pressed) ∧ ∃ t, agentStep .seq (loopAt 0x06 .pressed) = .next t ∧ t.pc = 0x0B) ∧
      ControlInv (loopAt 0x07 .cooldownActive) ∧
        ∃ t, agentStep .seq (loopAt 0x07 .cooldownActive) = .next t ∧ t.pc = 0x0E :=
  ⟨⟨controlInv_base, rfl, ⟨_, rfl⟩⟩, ⟨controlInv_loopAt.1, ⟨_, rfl, by decide⟩⟩, controlInv_loopAt.2,
    ⟨_, rfl, by decide⟩⟩

end Sys2Proof.Tests
end

section
/-! SUPPORT. Proofs about the state (10_state.md): FAULT and FCAUSE (R27), STATE (R30), the reset values (R41). -/

namespace Sys2Proof.Machine

variable {s t : State}

/-! ### The agents other than SEQ and RST -/

/-- The registers that SEQ alone writes between two resets (10_state.md R20, column "writers"), and the model's own ROM,
parameters and moves, are the same in `s` and `t`. -/
structure SeqRegistersKept (s t : State) : Prop where
  pc : t.pc = s.pc
  ph : t.ph = s.ph
  wrem : t.wrem = s.wrem
  wcfg : t.wcfg = s.wcfg
  fault : t.fault = s.fault
  fcause : t.fcause = s.fcause
  mag : t.mag = s.mag
  aden : t.aden = s.aden
  adrdy : t.adrdy = s.adrdy
  cdir : t.cdir = s.cdir
  cduty : t.cduty = s.cduty
  men : t.men = s.men
  ien : t.ien = s.ien
  gie : t.gie = s.gie
  trun : t.trun = s.trun
  tpre : t.tpre = s.tpre
  tcmp : t.tcmp = s.tcmp
  cdig : t.cdig = s.cdig
  segout : t.segout = s.segout
  params : t.params = s.params
  rom : t.rom = s.rom
  moves : t.moves = s.moves

theorem SeqRegistersKept.refl (s : State) : SeqRegistersKept s s := by constructor <;> rfl

/-- The motor's ports are functions of CDIR, CDUTY and MEN (42_motor_ops.md R145). -/
theorem SeqRegistersKept.motorPorts (h : SeqRegistersKept s t) :
    in1 t = in1 s ∧ in2 t = in2 s ∧ dutyOut t = dutyOut s := by
  simp [in1, in2, dutyOut, h.men, h.cdir, h.cduty]

theorem clkStep_seqRegisters (s : State) : SeqRegistersKept s (clkStep s) := by
  obtain ⟨-, h⟩ | ⟨-, -, h⟩ | ⟨-, -, h⟩ := clkStep_cases s <;> rw [h] <;> constructor <;> rfl

theorem adcStep_seqRegisters (v : BitVec 10) (s : State) : SeqRegistersKept s (adcStep v s) := by
  obtain ⟨-, h⟩ | ⟨-, -, h⟩ | ⟨-, -, h⟩ := adcStep_cases v s <;> rw [h] <;> constructor <;> rfl

theorem isrStep_seqRegisters (s : State) : SeqRegistersKept s (isrStep s) := by
  obtain ⟨-, h⟩ | ⟨-, h⟩ := isrStep_cases s <;> rw [h] <;> constructor <;> rfl

theorem agentStep_seqRegisters {m : Move} (hseq : m ≠ .seq) (hrst : isRst m = false) (h : agentStep m s = .next t) :
    SeqRegistersKept s t := by
  cases m with
  | seq => exact absurd rfl hseq
  | clk => cases h; exact clkStep_seqRegisters s
  | pwm => cases h; constructor <;> rfl
  | adc v => cases h; exact adcStep_seqRegisters v s
  | btn b => cases h; constructor <;> rfl
  | isr => cases h; exact isrStep_seqRegisters s
  | rst b => exact absurd hrst (by simp)

theorem clkStep_state (s : State) : (clkStep s).state = s.state := by
  obtain ⟨-, h⟩ | ⟨-, -, h⟩ | ⟨-, -, h⟩ := clkStep_cases s <;> rw [h]

theorem adcStep_state (v : BitVec 10) (s : State) : (adcStep v s).state = s.state := by
  obtain ⟨-, h⟩ | ⟨-, -, h⟩ | ⟨-, -, h⟩ := adcStep_cases v s <;> simp [h]

theorem isrStep_state_cases (s : State) :
    (isrStep s).state = s.state ∨ (isrStep s).state = handlerNext s.state := by
  obtain ⟨-, h⟩ | ⟨-, h⟩ := isrStep_cases s
  · exact .inr (by rw [h, serveInterrupt_state])
  · exact .inl (by rw [h])

/-- Between two steps of SEQ only the handler moves STATE (10_state.md R30). -/
theorem agentStep_state_cases {m : Move} (hseq : m ≠ .seq) (hrst : isRst m = false) (h : agentStep m s = .next t) :
    t.state = s.state ∨ (m = .isr ∧ t.state = handlerNext s.state) := by
  cases m with
  | seq => exact absurd rfl hseq
  | clk => cases h; exact .inl (clkStep_state s)
  | pwm => cases h; exact .inl rfl
  | adc v => cases h; exact .inl (adcStep_state v s)
  | btn b => cases h; exact .inl rfl
  | isr => cases h; exact (isrStep_state_cases s).imp_right fun hn => ⟨rfl, hn⟩
  | rst b => exact absurd hrst (by simp)

/-- The handler moves STATE out of Idle and Released only (60_exceptions.md R215). -/
theorem handlerNext_cases (c : ControllerState) :
    handlerNext c = c ∨ (c = .idle ∧ handlerNext c = .pressed) ∨ (c = .released ∧ handlerNext c = .cooldownActive) := by
  cases c with
  | idle => exact .inr (.inl ⟨rfl, rfl⟩)
  | pressed => exact .inl rfl
  | released => exact .inr (.inr ⟨rfl, rfl⟩)
  | cooldownActive => exact .inl rfl

/-! ### The operations on FAULT, FCAUSE and STATE -/

/-- FAULT, FCAUSE and STATE are the same in `s` and `t`. -/
structure FaultAndStateKept (s t : State) : Prop where
  fault : t.fault = s.fault
  fcause : t.fcause = s.fcause
  state : t.state = s.state

theorem waitEngine_faultAndState {k : WaitKind} (h : waitEngine k s = .next t) : FaultAndStateKept s t := by
  obtain ⟨-, rfl⟩ | ⟨-, -, rfl⟩ | ⟨-, -, rfl⟩ := waitEngine_cases h
  · exact ⟨rfl, rfl, rfl⟩
  · exact ⟨rfl, rfl, rfl⟩
  · by_cases hw : s.wrem = 1
    · rw [waitSubEnd_last hw]; exact ⟨rfl, rfl, rfl⟩
    · rw [waitSubEnd_more hw]; exact ⟨rfl, rfl, rfl⟩

theorem execAdcinit_faultAndState (h : execAdcinit s = .next t) : FaultAndStateKept s t := by
  obtain ⟨-, rfl⟩ | ⟨-, -, rfl⟩ | ⟨-, -, rfl⟩ := execAdcinit_cases h <;> exact ⟨rfl, rfl, rfl⟩

theorem execSample_faultAndState (h : execSample s = .next t) : FaultAndStateKept s t := by
  obtain ⟨-, rfl⟩ | ⟨-, -, rfl⟩ | ⟨-, -, rfl⟩ := execSample_cases h <;> exact ⟨rfl, rfl, rfl⟩

theorem execCdrun_faultAndState (h : execCdrun s = .next t) : FaultAndStateKept s t := by
  obtain ⟨-, rfl⟩ | ⟨-, -, rfl⟩ | ⟨-, -, rfl⟩ := execCdrun_cases h
  · exact ⟨rfl, rfl, rfl⟩
  · exact ⟨rfl, rfl, rfl⟩
  · by_cases hd : s.cdig = 0
    · rw [countdownStep_last hd]; exact ⟨rfl, rfl, rfl⟩
    · rw [countdownStep_more hd]; exact ⟨rfl, rfl, rfl⟩

theorem execBst_faultAndState {c : ControllerState} {tt : Addr} (h : execBst c tt s = .next t) :
    FaultAndStateKept s t := by
  obtain ⟨-, rfl⟩ | ⟨-, rfl⟩ := execBst_cases h <;> exact ⟨rfl, rfl, rfl⟩

/-- Everything an operation can do to FAULT, FCAUSE and STATE: DISP of a value that is no digit raises a fault, STREL and
STIDLE make their transition, all else keeps the three (43_control_ops.md R164, R165; log 19). -/
theorem exec_faultAndState_cases {i : Instr} (h : exec i s = .next t) :
    FaultAndStateKept s t ∨
    (∃ d, i = .disp d ∧ t = raiseSeqFault .illegalOp s) ∨
    (i = .strel ∧ s.state = .pressed ∧ t = advance { s with state := .released }) ∨
    (i = .stidle ∧ s.state = .cooldownActive ∧ t = advance { s with state := .idle }) := by
  cases i with
  | waitUs | waitMs | wait10ms | wait1s => exact .inl (waitEngine_faultAndState h)
  | adcinit => exact .inl (execAdcinit_faultAndState h)
  | sample => exact .inl (execSample_faultAndState h)
  | cdrun => exact .inl (execCdrun_faultAndState h)
  | bst c tt => exact .inl (execBst_faultAndState h)
  | tinit | motinit | apply | motorOff | motorOn | dispinit | dispClr | irqinit | irqOff | irqOn | gieOn | jmp tt =>
    cases h; exact .inl ⟨rfl, rfl, rfl⟩
  | disp d =>
    obtain ⟨-, rfl⟩ | ⟨-, rfl⟩ := execDisp_cases h
    · exact .inl ⟨rfl, rfl, rfl⟩
    · exact .inr (.inl ⟨d, rfl, rfl⟩)
  | strel =>
    cases h
    obtain ⟨hs, ht⟩ | ⟨-, ht⟩ := transition_cases .pressed .released s
    · exact .inr (.inr (.inl ⟨rfl, hs, by rw [ht]⟩))
    · rw [ht]; exact .inl ⟨rfl, rfl, rfl⟩
  | stidle =>
    cases h
    obtain ⟨hs, ht⟩ | ⟨-, ht⟩ := transition_cases .cooldownActive .idle s
    · exact .inr (.inr (.inr ⟨rfl, hs, by rw [ht]⟩))
    · rw [ht]; exact .inl ⟨rfl, rfl, rfl⟩

/-! ### SEQ's step on FAULT, FCAUSE and STATE -/

/-- With FAULT = 1 SEQ has no step (60_exceptions.md R211). -/
theorem seqStep_of_fault (hf : s.fault = true) : seqStep s = .next s := by simp [seqStep, hf]

/-- Everything SEQ's step can do to FAULT, FCAUSE and STATE. -/
theorem seqStep_faultAndState_cases (h : seqStep s = .next t) :
    FaultAndStateKept s t ∨
    (s.fault = false ∧ ∃ c, c ≠ FaultCause.none ∧ t = raiseSeqFault c s) ∨
    (opAt s = some .strel ∧ s.state = .pressed ∧ t = advance { s with state := .released }) ∨
    (opAt s = some .stidle ∧ s.state = .cooldownActive ∧ t = advance { s with state := .idle }) := by
  obtain ⟨-, rfl⟩ | ⟨-, -, rfl, -⟩ | ⟨hf, -, -, hc⟩ | ⟨hf, i, hop, -, he⟩ := seqStep_cases h
  · exact .inl ⟨rfl, rfl, rfl⟩
  · exact .inl ⟨rfl, rfl, rfl⟩
  · exact .inr (.inl ⟨hf, hc⟩)
  · obtain hk | ⟨d, -, ht⟩ | ⟨rfl, hs, ht⟩ | ⟨rfl, hs, ht⟩ := exec_faultAndState_cases he
    · exact .inl hk
    · exact .inr (.inl ⟨hf, .illegalOp, by decide, ht⟩)
    · exact .inr (.inr (.inl ⟨hop, hs, ht⟩))
    · exact .inr (.inr (.inr ⟨hop, hs, ht⟩))

/-! ### FAULT and FCAUSE (R27) -/

/-- With FAULT = 1 no step but RST's writes a register of SEQ. -/
theorem faulted_seqRegisters {m : Move} (hrst : isRst m = false) (hf : s.fault = true) (h : agentStep m s = .next t) :
    SeqRegistersKept s t := by
  by_cases hm : m = .seq
  · subst hm
    rw [agentStep_seq, seqStep_of_fault hf] at h
    cases h
    exact .refl s
  · exact agentStep_seqRegisters hm hrst h

/-- A step other than RST keeps FAULT and FCAUSE, or is SEQ's and raises a fault. -/
theorem agentStep_fault_cases {m : Move} (hrst : isRst m = false) (h : agentStep m s = .next t) :
    (t.fault = s.fault ∧ t.fcause = s.fcause) ∨
    (m = .seq ∧ s.fault = false ∧ t.fault = true ∧ t.fcause ≠ .none) := by
  by_cases hm : m = .seq
  · subst hm
    obtain hk | ⟨hf, c, hc, rfl⟩ | ⟨-, -, rfl⟩ | ⟨-, -, rfl⟩ := seqStep_faultAndState_cases h
    · exact .inl ⟨hk.fault, hk.fcause⟩
    · exact .inr ⟨rfl, hf, rfl, hc⟩
    · exact .inl ⟨rfl, rfl⟩
    · exact .inl ⟨rfl, rfl⟩
  · have hk := agentStep_seqRegisters hm hrst h
    exact .inl ⟨hk.fault, hk.fcause⟩

/-- Settles O9: FAULT and FCAUSE move in one case of SEQ's step, which FAULT = 1 excludes. -/
theorem faultIsSticky : Obligations.FaultIsSticky := by
  intro m s t h
  refine ⟨fun hrst hf => ?kept, fun hrst hf ht => ?raised, fun hrst hc => ?cause, fun hm hf => ?noStep,
    fun hrst => ?cleared⟩
  case kept =>
    have hk := faulted_seqRegisters hrst hf h
    obtain ⟨h1, h2, hd⟩ := hk.motorPorts
    exact ⟨hk.fault.trans hf, hk.fcause, hk.pc, hk.ph, h1, h2, hd, hk.segout⟩
  case raised =>
    obtain ⟨hk, -⟩ | ⟨hm, -, -, hc⟩ := agentStep_fault_cases hrst h
    · rw [ht, hf] at hk; cases hk
    · exact ⟨hm, hc⟩
  case cause =>
    obtain ⟨-, hk⟩ | ⟨-, hf, ht, -⟩ := agentStep_fault_cases hrst h
    · exact absurd hk hc
    · exact ⟨hf, ht⟩
  case noStep =>
    rw [hm, agentStep_seq, seqStep_of_fault hf] at h
    cases h
    rfl
  case cleared =>
    cases m with
    | rst b => cases h; rfl
    | seq | clk | pwm | adc v | btn b | isr => cases hrst

/-! ### STATE (R30) -/

@[simp] theorem ofCode_code (c : ControllerState) : ControllerState.ofCode c.code = c := by cases c <;> rfl

@[simp] theorem code_ofCode (b : BitVec 2) : (ControllerState.ofCode b).code = b := by revert b; decide

/-- Settles O47: of SEQ's steps only those of STREL and STIDLE move STATE, of the other agents' only the handler's. -/
theorem stateMovesOnlyInItsCycle : Obligations.StateMovesOnlyInItsCycle := by
  refine ⟨fun m s t h hrst => ?_, ofCode_code, code_ofCode⟩
  by_cases hm : m = .seq
  · subst hm
    obtain hk | ⟨-, c, -, rfl⟩ | ⟨hop, hs, rfl⟩ | ⟨hop, hs, rfl⟩ := seqStep_faultAndState_cases h
    · exact .inl hk.state
    · exact .inl rfl
    · exact .inr (.inr (.inr (.inl ⟨rfl, hop, hs, rfl⟩)))
    · exact .inr (.inr (.inr (.inr ⟨rfl, hop, hs, rfl⟩)))
  · obtain hk | ⟨hisr, hn⟩ := agentStep_state_cases hm hrst h
    · exact .inl hk
    · obtain hc | ⟨hs, hc⟩ | ⟨hs, hc⟩ := handlerNext_cases s.state
      · exact .inl (hn.trans hc)
      · exact .inr (.inl ⟨hisr, hs, hn.trans hc⟩)
      · exact .inr (.inr (.inl ⟨hisr, hs, hn.trans hc⟩))

/-! ### The reset values (R41) -/

/-- The launch state and the state after an RST step are both `afterReset`, the model's own fields aside (R240, R262). -/
theorem eq_afterReset_of_reset_or_rst {level : Bool}
    (h : (t = State.reset ∧ level = Config.btnAtReset) ∨ ∃ s, agentStep (.rst level) s = .next t) :
    ∃ p rom u ms n, t = { State.afterReset p rom level u with moves := ms, draws := n } := by
  obtain ⟨rfl, rfl⟩ | ⟨s, hs⟩ := h
  · exact ⟨Config.params, controlRom Config.params.settleKind, Unspecified.zero, [], 0, rfl⟩
  · cases hs
    exact ⟨_, _, _, _, _, rfl⟩

/-- Settles O50: `afterReset` writes the table's value into each of the twenty registers. -/
theorem resetRegisters : Obligations.ResetRegisters := by
  intro t level h
  obtain ⟨p, rom, u, ms, n, rfl⟩ := eq_afterReset_of_reset_or_rst h
  exact ⟨rfl, rfl, rfl, rfl, rfl, rfl, rfl, rfl, rfl, rfl, rfl, rfl, rfl, rfl, rfl, rfl, rfl, rfl, rfl, rfl⟩

end Sys2Proof.Machine
end

section
/-! SUPPORT. Proofs about the encoding (30_encoding.md): the words that the decoder rejects, that no row of R82 selects
and that R84 lists are the same, shown field by field (R80); issuing one is a sequencer fault (60_exceptions.md R211). -/

namespace Sys2Proof

/-! ### Fields of a word (R80) -/

theorem word_eq_iff_fields {w v : Word} :
    w = v ↔ opField w = opField v ∧ subField w = subField v ∧ immField w = immField v := by
  refine ⟨by rintro rfl; exact ⟨rfl, rfl, rfl⟩, fun ⟨hop, hsub, himm⟩ => ?_⟩
  simp only [opField, subField, immField, BitVec.toNat_eq, BitVec.extractLsb'_toNat,
    Nat.shiftRight_eq_div_pow] at *
  have := w.isLt
  have := v.isLt
  omega

@[simp] theorem nibble_and_ones (x : BitVec 4) : x &&& 0xF#4 = x := BitVec.and_allOnes

@[simp] theorem imm_and_ones (imm : Addr) : imm &&& 0xFF#8 = imm := BitVec.and_allOnes

theorem isDigit_imm_low (imm : Addr) : isDigit (imm.extractLsb' 0 4) = decide (imm.toNat % 16 ≤ 9) := by
  simp [isDigit]

theorem imm_high_eq_zero_iff : ∀ imm : Addr, imm.extractLsb' 4 4 = 0#4 ↔ imm.toNat / 16 = 0 := by decide

theorem imm_and_high_eq_zero_iff : ∀ imm : Addr, imm &&& 0xF0#8 = 0#8 ↔ imm.toNat / 16 = 0 := by decide

theorem sub_high_eq_zero_iff : ∀ sub : BitVec 4, sub.extractLsb' 2 2 = 0#2 ↔ sub.toNat / 4 = 0 := by decide

theorem sub_and_high_eq_zero_iff : ∀ sub : BitVec 4, sub &&& 0xC#4 = 0#4 ↔ sub.toNat / 4 = 0 := by decide

/-- The groups from 0x9 on, group 0x0, and the eight groups with operations. -/
theorem opGroup_cases : ∀ op : BitVec 4,
    9 ≤ op.toNat ∨ op = 0x0#4 ∨ op = 0x1#4 ∨ op = 0x2#4 ∨ op = 0x3#4 ∨ op = 0x4#4 ∨ op = 0x5#4 ∨ op = 0x6#4 ∨
      op = 0x7#4 ∨ op = 0x8#4 := by decide

/-! ### What each group of the decoder accepts (R82, R84) -/

@[simp] theorem isOk_ok (i : Instr) : (Except.ok i : Except Reject Instr).isOk = true := rfl

@[simp] theorem isOk_error (r : Reject) : (Except.error r : Except Reject Instr).isOk = false := rfl

theorem exists_error_iff_isOk {x : Except Reject Instr} : (∃ r, x = .error r) ↔ x.isOk = false := by
  cases x <;> simp

@[simp] theorem bare_isOk (imm : Addr) (i : Instr) : (bare imm i).isOk = decide (imm = 0#8) := by
  unfold bare
  split_ifs with h <;> simp [h]

@[simp] theorem decodeDisp_isOk (imm : Addr) :
    (decodeDisp imm).isOk = decide (imm.toNat / 16 = 0 ∧ imm.toNat % 16 ≤ 9) := by
  simp only [decodeDisp, ne_eq, imm_high_eq_zero_iff, isDigit_imm_low, decide_eq_true_iff]
  split_ifs <;> simp [*]

@[simp] theorem decodeTimer_isOk (sub : BitVec 4) (imm : Addr) :
    (decodeTimer sub imm).isOk = decide (sub ∈ [0x0#4, 0x1#4, 0x2#4, 0x3#4, 0x8#4] ∧ imm = 0#8) := by
  unfold decodeTimer
  split_ifs <;> simp [*]

@[simp] theorem decodeAdc_isOk (sub : BitVec 4) (imm : Addr) :
    (decodeAdc sub imm).isOk = decide (sub ∈ [0x0#4, 0x1#4] ∧ imm = 0#8) := by
  unfold decodeAdc
  split_ifs <;> simp [*]

@[simp] theorem decodeMotor_isOk (sub : BitVec 4) (imm : Addr) :
    (decodeMotor sub imm).isOk = decide (sub ∈ [0x0#4, 0x1#4, 0x2#4, 0x3#4] ∧ imm = 0#8) := by
  unfold decodeMotor
  split_ifs <;> simp [*]

@[simp] theorem decodeDisplay_isOk (sub : BitVec 4) (imm : Addr) :
    (decodeDisplay sub imm).isOk =
      decide ((sub ∈ [0x0#4, 0x2#4, 0x3#4] ∧ imm = 0#8) ∨
        (sub = 0x1#4 ∧ imm.toNat / 16 = 0 ∧ imm.toNat % 16 ≤ 9)) := by
  unfold decodeDisplay
  split_ifs <;> simp [*]

@[simp] theorem decodeIrq_isOk (sub : BitVec 4) (imm : Addr) :
    (decodeIrq sub imm).isOk = decide (sub ∈ [0x0#4, 0x1#4, 0x2#4, 0x3#4] ∧ imm = 0#8) := by
  unfold decodeIrq
  split_ifs <;> simp [*]

@[simp] theorem decodeTransition_isOk (sub : BitVec 4) (imm : Addr) :
    (decodeTransition sub imm).isOk = decide (sub ∈ [0x0#4, 0x1#4] ∧ imm = 0#8) := by
  unfold decodeTransition
  split_ifs <;> simp [*]

@[simp] theorem decodeBst_isOk (sub : BitVec 4) (imm : Addr) :
    (decodeBst sub imm).isOk = decide (sub.toNat / 4 = 0) := by
  simp only [decodeBst, sub_high_eq_zero_iff]
  split_ifs with h <;> simp [h]

@[simp] theorem decodeJmp_isOk (sub : BitVec 4) (imm : Addr) : (decodeJmp sub imm).isOk = decide (sub = 0x0#4) := by
  unfold decodeJmp
  split_ifs with h <;> simp [h]

theorem decodeWord_of_unusedGroup {w : Word} (h : 9 ≤ (opField w).toNat) : decodeWord w = .error .unusedGroup := by
  have hne (k : BitVec 4) (hk : k.toNat < 9) : opField w ≠ k := by rintro rfl; omega
  simp [decodeWord, hne]

/-- The decoder rejects the words that R84 lists: in each group of `op`, both speak of `sub` and `imm` alone. -/
theorem decodeWord_error_iff_illegalByFields (w : Word) :
    (∃ r, decodeWord w = .error r) ↔ illegalByFields w = true := by
  rw [exists_error_iff_isOk]
  obtain h | h | h | h | h | h | h | h | h | h := opGroup_cases (opField w)
  · simp [decodeWord_of_unusedGroup h, illegalByFields, h]
  all_goals simp [decodeWord, illegalByFields, h, BitVec.toNat_eq] <;> omega

/-! ### What the rows of the opcode map select (R82) -/

theorem OpcodeRow.selects_iff_fields {r : OpcodeRow} {w : Word} :
    r.selects w = true ↔
      (opField w &&& opField r.mask = opField r.pattern ∧ subField w &&& subField r.mask = subField r.pattern ∧
        immField w &&& immField r.mask = immField r.pattern) ∧
      (r.condition = .digit → (immField w).toNat % 16 ≤ 9) := by
  have hdigit : isDigit (w.extractLsb' 0 4) = decide ((immField w).toNat % 16 ≤ 9) := by
    rw [← isDigit_imm_low]; simp [immField]
  rw [selects, Bool.and_eq_true, decide_eq_true_iff, word_eq_iff_fields, hdigit]
  cases r.condition <;> simp [opField, subField, immField, BitVec.extractLsb'_and]

/-- The words that R84 lists are those that no row selects. The table is written out as conditions on the three fields;
in each group of `op`, both sides then speak of `sub` and `imm` alone. -/
theorem illegalByFields_iff_no_row_selects (w : Word) :
    illegalByFields w = true ↔ ∀ r ∈ opcodeRows, r.selects w = false := by
  simp only [← Bool.not_eq_true, OpcodeRow.selects_iff_fields, illegalByFields]
  generalize opField w = op, subField w = sub, immField w = imm
  simp only [opcodeRows, List.map_cons, List.map_nil, List.forall_mem_cons, opcodeRow, fixedRow, opField, subField,
    immField, BitVec.ofNat_eq_ofNat, BitVec.reduceExtractLsb', nibble_and_ones, imm_and_ones, BitVec.and_zero,
    imm_and_high_eq_zero_iff, sub_and_high_eq_zero_iff]
  obtain h | h | h | h | h | h | h | h | h | h := opGroup_cases op
  all_goals simp [h] <;> bv_omega

end Sys2Proof

namespace Sys2Proof.Machine

variable {s : State}

/-! ### The issue of an illegal word (43_control_ops.md R168) -/

theorem fetch_of_illegal {w : Word} {r : Reject} (hr : romRead s s.pc = some w) (hd : decodeWord w = .error r) :
    fetch s = .error .illegalOp := by
  simp [fetch, hr, hd]

/-- An issue that finds no operation raises its fault (60_exceptions.md R211). -/
theorem seqStep_of_fetch_error {c : FaultCause} (hf : s.fault = false) (hp : s.ph = false) (h : fetch s = .error c) :
    seqStep s = .next (raiseSeqFault c s) := by
  simp [seqStep, hf, hp, h]

/-- Settles O4: the decoder, the list of R84 and the opcode map agree on every word, and the issue of one that they
refuse fails its decode check. -/
theorem illegalWordsFaultAtIssue : Obligations.IllegalWordsFaultAtIssue := by
  refine ⟨fun w => ⟨decodeWord_error_iff_illegalByFields w, illegalByFields_iff_no_row_selects w⟩, by decide, by decide,
    fun s w hf hp hr hw => ?_⟩
  obtain ⟨r, hd⟩ := (decodeWord_error_iff_illegalByFields w).mpr hw
  rw [agentStep_seq]
  exact seqStep_of_fetch_error hf hp (fetch_of_illegal hr hd)

end Sys2Proof.Machine
end

section
/-! SUPPORT. Proofs about the timer operations (40_timer_ops.md): the threshold formula (R101), the tick of `clk` (R102),
the wait engine (R105), TINIT (R106). -/

namespace Sys2Proof.Machine

variable {s : State}

/-! ### The wait engine (R105) -/

/-- The four rows of R105 are the four wait kinds with their configurations and repeat counts. -/
theorem exists_kind_of_mem_waits {i : Instr} {cfg : TimerCfg} {n : BitVec 4}
    (h : (i, cfg, n) ∈
      [(Instr.waitUs, TimerCfg.us, 1#4), (.waitMs, .ms, 1#4), (.wait10ms, .ms, 10#4), (.wait1s, .s, 1#4)]) :
    ∃ k : WaitKind, i = k.instr ∧ cfg = kindCfg k ∧ n = kindCount k := by
  simp only [List.mem_cons, List.not_mem_nil, or_false, Prod.mk.injEq] at h
  obtain ⟨rfl, rfl, rfl⟩ | ⟨rfl, rfl, rfl⟩ | ⟨rfl, rfl, rfl⟩ | ⟨rfl, rfl, rfl⟩ := h
  · exact ⟨.microsecond, rfl, rfl, rfl⟩
  · exact ⟨.millisecond, rfl, rfl, rfl⟩
  · exact ⟨.tenMilliseconds, rfl, rfl, rfl⟩
  · exact ⟨.oneSecond, rfl, rfl, rfl⟩

theorem waitEngine_issue (k : WaitKind) (hp : s.ph = false) : waitEngine k s = .next (waitIssue k s) := by
  simp [waitEngine, hp]

theorem waitEngine_hold (k : WaitKind) (hp : s.ph = true) (hf : s.tflag = false) : waitEngine k s = .next s := by
  simp [waitEngine, timerDone, hp, hf]

theorem waitEngine_subEnd (k : WaitKind) (hp : s.ph = true) (hf : s.tflag = true) :
    waitEngine k s = .next (waitSubEnd s) := by
  simp [waitEngine, timerDone, hp, hf]

/-- Settles O16: each WAIT is the wait engine of its kind, whose phases PH, TFLAG and WREM select. -/
theorem waitEngineSteps : Obligations.WaitEngineSteps := by
  intro i cfg n s hmem
  obtain ⟨k, rfl, rfl, rfl⟩ := exists_kind_of_mem_waits hmem
  rw [exec_wait]
  refine ⟨fun hp => ?issue, fun hp hf t ht => ?hold, fun hp hf hw => ?complete, fun hp hf hw => ?nextSubWait⟩
  case issue => rw [waitEngine_issue k hp]; rfl
  case hold =>
    rw [waitEngine_hold k hp hf] at ht
    cases ht
    rfl
  case complete => rw [waitEngine_subEnd k hp hf, waitSubEnd_last hw]; rfl
  case nextSubWait =>
    refine ⟨countDown s.wrem, countDown_toNat, ?_⟩
    rw [waitEngine_subEnd k hp hf, waitSubEnd_more hw]
    rfl

/-! ### The threshold formula (R101) -/

/-- `roundHalfUp` is the rounding of 00_scope.md section 6: `num/den + 1/2 = (2·num + den)/(2·den)`. -/
theorem roundHalfUp_eq_floor (num : Nat) {den : Nat} (hd : 0 < den) :
    (roundHalfUp num den : Int) = ⌊(num : ℚ) / den + 1 / 2⌋ := by
  have hq : (num : ℚ) / den + 1 / 2 = ((2 * num + den : Nat) : ℚ) / ((2 * den : Nat) : ℚ) := by
    push_cast
    field_simp
  rw [hq, Rat.floor_natCast_div_natCast, roundHalfUp, Int.natCast_ediv]

theorem perSecond_pos (k : TimerCfg) : 0 < perSecond k := by cases k <;> decide

/-- The product that THRESH[k] rounds, with T[k] as `1 / perSecond k`. -/
theorem thresh_eq_floor (p : ParamSet) (k : TimerCfg) (hden : 0 < p.fClkDen) (hpre : 0 < p.prescale k) :
    (p.thresh k : Int) =
      ⌊(1 / (perSecond k : ℚ)) * ((p.fClkNum : ℚ) / (p.fClkDen : ℚ)) / (p.prescale k : ℚ) + 1 / 2⌋ := by
  have hsec := perSecond_pos k
  have hq : (1 / (perSecond k : ℚ)) * ((p.fClkNum : ℚ) / (p.fClkDen : ℚ)) / (p.prescale k : ℚ) =
      (p.fClkNum : ℚ) / ((p.fClkDen * perSecond k * p.prescale k : Nat) : ℚ) := by
    push_cast
    field_simp
  rw [hq, ParamSet.thresh, roundHalfUp_eq_floor p.fClkNum (by positivity)]

/-- A set whose threshold the counter could never reach or never hold is refused (92_eei_decisions.md D13). -/
theorem check?_eq_none_of_thresh {p : ParamSet} {k : TimerCfg}
    (h : p.thresh k < 1 ∨ 2 ^ p.wCnt - 1 < p.thresh k) : p.check? = none := by
  apply check?_eq_none
  by_contra hw
  have hrange : 1 ≤ p.thresh k ∧ p.thresh k ≤ 2 ^ p.wCnt - 1 := (timer_constraints ⟨p, by simpa using hw⟩ k).2
  omega

/-- Settles O18: the formula with T[k] written out, the refusal, and REF0's values. -/
theorem thresholdFormula : Obligations.ThresholdFormula := by
  refine ⟨fun p k hden hpre => ?formula, fun p k => check?_eq_none_of_thresh, by decide, by decide, by decide⟩
  case formula =>
    rw [thresh_eq_floor p k hden hpre]
    cases k <;> simp [perSecond]

/-! ### TINIT (R106) -/

/-- Settles O15: TINIT is the stop of the timer, both counts zeroed, and the advance of PC. -/
theorem tinitResult : Obligations.TinitResult := ⟨rfl, fun _ => rfl⟩

/-! ### The tick of `clk` (R102) -/

theorem compareFlag_of_eq {cnt cmp : Nat} (h : cnt = cmp) (flag : Bool) : compareFlag cnt cmp flag = true := if_pos h

theorem compareFlag_of_ne {cnt cmp : Nat} (h : cnt ≠ cmp) (flag : Bool) : compareFlag cnt cmp flag = flag := if_neg h

/-- Settles O17: the three branches of the tick, the last, a phase end, with and without the match. -/
theorem clkTick : Obligations.ClkTick := by
  intro s
  rw [agentStep_clk]
  obtain ⟨hr, h⟩ | ⟨hr, hd, h⟩ | ⟨hr, hd, h⟩ := clkStep_cases s <;> rw [h]
  · simp [hr]
  · simp [hr, hd]
  · refine ⟨fun _ _ hc => ?_, fun _ _ hc => ?_, fun _ hd' => absurd hd hd', fun hr' => ?_⟩
    · rw [compareFlag_of_eq hc]
    · rw [compareFlag_of_ne hc]
    · rw [hr] at hr'
      cases hr'

end Sys2Proof.Machine
end

section
/-! SUPPORT. Proofs about the converter's operations (41_adc_ops.md): the phases of ADCINIT (R123) and SAMPLE (R124). -/

namespace Sys2Proof.Machine

variable {s : State}

/-! ### ADCINIT (R123) -/

theorem execAdcinit_issue (hp : s.ph = false) :
    execAdcinit s = .next (startConversion { s with aden := true }) := by
  simp [execAdcinit, hp]

theorem execAdcinit_hold (hp : s.ph = true) (hc : s.adsc = true) : execAdcinit s = .next s := by
  simp [execAdcinit, conversionDone, hp, hc]

theorem execAdcinit_complete (hp : s.ph = true) (hc : s.adsc = false) :
    execAdcinit s = .next (endHold { s with adrdy := true }) := by
  simp [execAdcinit, conversionDone, hp, hc]

/-- Settles O24: PH and ADSC select the phase; the completion writes ADRDY, PH and PC, and not MAG. -/
theorem adcinitPhases : Obligations.AdcinitPhases := by
  refine ⟨rfl, fun s => ⟨fun hp => ?issue, fun hp hc t ht => ?hold, fun hp hc => ?complete⟩⟩
  case issue => exact execAdcinit_issue hp
  case hold =>
    cases (execAdcinit_hold hp hc).symm.trans ht
    rfl
  case complete => exact execAdcinit_complete hp hc

/-! ### SAMPLE (R124) -/

theorem execSample_issue (hp : s.ph = false) : execSample s = .next (startConversion s) := by
  simp [execSample, hp]

theorem execSample_hold (hp : s.ph = true) (hc : s.adsc = true) : execSample s = .next s := by
  simp [execSample, conversionDone, hp, hc]

theorem execSample_complete (hp : s.ph = true) (hc : s.adsc = false) :
    execSample s = .next (endHold { s with mag := adresResult s.adres }) := by
  simp [execSample, conversionDone, hp, hc]

/-- `ADRES[9:0]` drops the six high bits (30_encoding.md R91). -/
theorem adresResult_toNat (r : BitVec 16) : (adresResult r).toNat = r.toNat % 1024 := by
  simp [adresResult]

/-- Settles O25: PH and ADSC select the phase; the completion's MAG is `ADRES[9:0]`, and no phase reads ADRDY. -/
theorem samplePhases : Obligations.SamplePhases := by
  refine ⟨rfl, fun s => ⟨fun hp => ?issue, fun hp hc t ht => ?hold, fun hp hc => ?complete⟩⟩
  case issue => exact execSample_issue hp
  case hold =>
    cases (execSample_hold hp hc).symm.trans ht
    rfl
  case complete => exact ⟨adresResult s.adres, adresResult_toNat s.adres, execSample_complete hp hc⟩

end Sys2Proof.Machine
end

section
/-! SUPPORT. Proofs about the motor stage (42_motor_ops.md): the mapper (R135, R137 to R139), the output ports (R145),
MOTINIT, APPLY and the gate (R141 to R144). -/

namespace Sys2Proof.Machine

variable {p : Params} {m : BitVec 10} {s : State}

/-! ### The mapper (R135, R137 to R139) -/

theorem dutyMap_reverse (h : m.toNat + p.deadzone < 511) :
    (dutyMap p m).1 = .reverse ∧ (dutyMap p m).2.toNat = (511 - m.toNat) * 2 := by
  obtain ⟨-, hmap⟩ | ⟨hlt, -⟩ | ⟨hge, -⟩ := dutyMap_cases p m
  · exact hmap
  · omega
  · omega

theorem dutyMap_forward (h : 511 + p.deadzone < m.toNat) :
    (dutyMap p m).1 = .forward ∧ (dutyMap p m).2.toNat = (m.toNat - 512) * 2 := by
  obtain ⟨hlt, -⟩ | ⟨-, hmap⟩ | ⟨-, hle, -⟩ := dutyMap_cases p m
  · omega
  · exact hmap
  · omega

theorem dutyMap_brake (hge : 511 ≤ m.toNat + p.deadzone) (hle : m.toNat ≤ 511 + p.deadzone) :
    dutyMap p m = (.brake, 0) := by
  obtain ⟨hlt, -⟩ | ⟨hlt, -⟩ | ⟨-, -, hmap⟩ := dutyMap_cases p m
  · omega
  · omega
  · exact hmap

/-- Settles O30: with DEADZONE = 0 the three cases of the mapper are below, above and at 511; the strict monotonicity
is that of the values. -/
theorem mapperWithoutDeadzone : Obligations.MapperWithoutDeadzone := by
  intro p h0
  have below (m : BitVec 10) (hm : m.toNat < 511) := dutyMap_reverse (p := p) (m := m) (by omega)
  have above (m : BitVec 10) (hm : 511 < m.toNat) := dutyMap_forward (p := p) (m := m) (by omega)
  refine ⟨below, above, dutyMap_brake (by simp) (by simp), fun m n hmn hn => ?decreasing, fun m n hm hmn => ?increasing⟩
  case decreasing =>
    rw [(below m (by omega)).2, (below n hn).2]
    omega
  case increasing =>
    rw [(above m hm).2, (above n (by omega)).2]
    omega

/-- The duty is twice a count that is at most 511 (R138). -/
theorem dutyMap_duty_le_and_even (p : Params) (m : BitVec 10) :
    (dutyMap p m).2.toNat ≤ 1022 ∧ (dutyMap p m).2.toNat % 2 = 0 := by
  obtain ⟨-, -, hduty⟩ | ⟨-, -, hduty⟩ | ⟨-, -, hmap⟩ := dutyMap_cases p m
  · omega
  · have := m.isLt
    omega
  · simp [hmap]

/-- Settles O31: the bound and parity hold in each case of the mapper; the four codes are the last of its Reverse side,
the center, and the first two of its Forward side. -/
theorem dutyRangeAndAsymmetry : Obligations.DutyRangeAndAsymmetry := by
  refine ⟨dutyMap_duty_le_and_even, fun p h0 => ?codes⟩
  obtain ⟨dir510, duty510⟩ := dutyMap_reverse (p := p) (m := 510) (by simp [h0])
  obtain ⟨dir512, duty512⟩ := dutyMap_forward (p := p) (m := 512) (by simp [h0])
  obtain ⟨dir513, duty513⟩ := dutyMap_forward (p := p) (m := 513) (by simp [h0])
  exact ⟨Prod.ext dir510 (BitVec.eq_of_toNat_eq duty510), dutyMap_brake (by simp) (by simp),
    Prod.ext dir512 (BitVec.eq_of_toNat_eq duty512), Prod.ext dir513 (BitVec.eq_of_toNat_eq duty513)⟩

/-! ### The operations' next states (R141 to R144) -/

theorem exec_motinit (s : State) :
    exec .motinit s = .next { s with cdir := .brake, cduty := 0, men := true, pc := s.pc + 1 } := rfl

theorem exec_apply (s : State) :
    exec .apply s =
      .next { s with cdir := (dutyMap s.params s.mag).1, cduty := (dutyMap s.params s.mag).2, pc := s.pc + 1 } := rfl

theorem exec_motorOff (s : State) : exec .motorOff s = .next { s with men := false, pc := s.pc + 1 } := rfl

theorem exec_motorOn (s : State) : exec .motorOn s = .next { s with men := true, pc := s.pc + 1 } := rfl

/-- Settles O29: APPLY writes what the mapper answers, which has the three cases of R135 exactly. -/
theorem applyResult : Obligations.ApplyResult := by
  refine ⟨rfl, fun s => ?_⟩
  rw [exec_apply]
  refine ⟨fun hlow => ?reverse, fun hhigh => ?forward, fun hlow hhigh => ?brake⟩
  case reverse =>
    obtain ⟨hdir, hduty⟩ := dutyMap_reverse (p := s.params) (m := s.mag) (by omega)
    exact ⟨(dutyMap s.params s.mag).2, by omega, by rw [hdir]⟩
  case forward =>
    obtain ⟨hdir, hduty⟩ := dutyMap_forward (p := s.params) (m := s.mag) (by omega)
    exact ⟨(dutyMap s.params s.mag).2, by omega, by rw [hdir]⟩
  case brake => rw [dutyMap_brake (p := s.params) (m := s.mag) (by omega) (by omega)]

/-! ### The motor's ports (R145) -/

theorem in1_iff (s : State) : in1 s = true ↔ s.men = true ∧ s.cdir = .forward := by
  cases h : s.cdir <;> simp [in1, h, Direction.code]

theorem in2_iff (s : State) : in2 s = true ↔ s.men = true ∧ s.cdir = .reverse := by
  cases h : s.cdir <;> simp [in2, h, Direction.code]

theorem dutyOut_of_open (h : s.men = true) : dutyOut s = s.cduty := if_pos h

theorem motorPorts_of_closed (h : s.men = false) : in1 s = false ∧ in2 s = false ∧ dutyOut s = 0 := by
  simp [in1, in2, dutyOut, h]

/-- A duty of 0 is above no count, so the line stays low (R146). -/
theorem pwmLine_of_closed (h : s.men = false) : pwmLine s = false := by
  simp [pwmLine, dutyOut, h]

/-- The command Brake with duty 0 shows 0, 0, 0, gate open or closed. -/
theorem motorPorts_of_brake (hdir : s.cdir = .brake) (hduty : s.cduty = 0) :
    in1 s = false ∧ in2 s = false ∧ dutyOut s = 0 := by
  simp [in1, in2, dutyOut, hdir, hduty, Direction.code]

/-- Settles O34: the gate opens, and the command it lets through is Brake with duty 0. -/
theorem motinitResult : Obligations.MotinitResult :=
  ⟨rfl, fun s => ⟨_, exec_motinit s, rfl, motorPorts_of_brake rfl rfl⟩⟩

/-- Settles O35: the ports as functions of the gate and the command, then read after each of the two writes of MEN. -/
theorem motorGate : Obligations.MotorGate := by
  refine ⟨rfl, rfl, fun s => ⟨in1_iff s, in2_iff s, rfl, ?off, ?on⟩⟩
  case off =>
    obtain ⟨h1, h2, hduty⟩ := motorPorts_of_closed (s := { s with men := false, pc := s.pc + 1 }) rfl
    exact ⟨_, exec_motorOff s, rfl, h1, h2, hduty, pwmLine_of_closed rfl⟩
  case on =>
    refine ⟨_, exec_motorOn s, rfl, ?_, ?_, dutyOut_of_open rfl⟩
    · simp [in1_iff]
    · simp [in2_iff]

end Sys2Proof.Machine
end

section
/-! SUPPORT. Proofs about the sequencer and control operations (43_control_ops.md): SEQ's step (R168), interrupt control
(R160 to R163), the main loop's transitions (R164, R165), BST and JMP (R166, R167) with their words (30_encoding.md
R80). -/

namespace Sys2Proof.Machine

variable {s : State}

/-! ### SEQ's step (R168) -/

/-- The fetch check fails at and above ROM_LEN (20_memory.md R61). -/
theorem fetch_of_outOfRom (h : s.rom.length ≤ s.pc.toNat) : fetch s = .error .fetchOutOfRom := by
  have hr : romRead s s.pc = none := (read_none_iff s.rom s.pc).mpr h
  simp [fetch, hr]

/-- Settles O8: FAULT, then what the fetch answers, select the case; the two fetch errors raise their fault. -/
theorem sequencerStep : Obligations.SequencerStep := by
  intro s
  rw [agentStep_seq]
  refine ⟨fun hf hp hlen => ?outOfRom, fun w r hf hp hr hd => ?illegal, fun w i hf hr hd hb => ?issueOrHold,
    fun hf t ht => ?faulted⟩
  case outOfRom => exact seqStep_of_fetch_error hf hp (fetch_of_outOfRom hlen)
  case illegal => exact seqStep_of_fetch_error hf hp (fetch_of_illegal hr hd)
  case issueOrHold => exact seqStep_exec hf (opAt_of_read hr hd) hb
  case faulted =>
    cases (seqStep_of_fault hf).symm.trans ht
    rfl

/-! ### Interrupt control (R160 to R163) -/

theorem exec_irqinit (s : State) :
    exec .irqinit s = .next { s with ipend := false, ien := true, pc := s.pc + 1 } := rfl

theorem exec_irqOff (s : State) :
    exec .irqOff s = .next { s with ipend := false, ien := false, pc := s.pc + 1 } := rfl

theorem exec_irqOn (s : State) : exec .irqOn s = .next { s with ien := true, pc := s.pc + 1 } := rfl

theorem exec_gieOn (s : State) : exec .gieOn s = .next { s with gie := true, pc := s.pc + 1 } := rfl

/-- Settles O42: the four words, and each operation's writes followed by the advance of PC. -/
theorem interruptControl : Obligations.InterruptControl :=
  ⟨rfl, rfl, rfl, rfl, fun s => ⟨exec_irqinit s, exec_irqOff s, exec_irqOn s, exec_gieOn s⟩⟩

/-! ### The main loop's transitions (R164, R165) -/

theorem exec_strel (s : State) : exec .strel s = .next (advance (transition .pressed .released s)) := rfl

theorem exec_stidle (s : State) : exec .stidle s = .next (advance (transition .cooldownActive .idle s)) := rfl

theorem transition_of_eq {a : ControllerState} (h : s.state = a) (b : ControllerState) :
    transition a b s = { s with state := b } := by
  simp [transition, stateIs, h]

theorem transition_of_ne {a : ControllerState} (h : s.state ≠ a) (b : ControllerState) : transition a b s = s := by
  simp [transition, stateIs, h]

/-- Settles O43: each operation is a guarded transition followed by the advance of PC; the guard is STATE's one source
state. -/
theorem mainLoopTransitions : Obligations.MainLoopTransitions := by
  refine ⟨rfl, rfl, fun s => ?_⟩
  rw [exec_strel, exec_stidle]
  refine ⟨fun h => ?release, fun h => ?keepAtStrel, fun h => ?idle, fun h => ?keepAtStidle⟩
  case release => rw [transition_of_eq h]; rfl
  case keepAtStrel => rw [transition_of_ne h]; rfl
  case idle => rw [transition_of_eq h]; rfl
  case keepAtStidle => rw [transition_of_ne h]; rfl

/-! ### BST and JMP (R166, R167) -/

/-- The fields of a packed word do not overlap, and fill its 16 bits (30_encoding.md R80). -/
theorem packWord_toNat (op sub : BitVec 4) (imm : Addr) :
    (packWord op sub imm).toNat = op.toNat * 0x1000 + sub.toNat * 0x100 + imm.toNat := by
  have := op.isLt
  have := sub.isLt
  have := imm.isLt
  rw [packWord, BitVec.toNat_ofNat]
  omega

theorem encode_bst_toNat (c : ControllerState) (tt : Addr) :
    (encode (.bst c tt)).toNat = 0x7000 + 0x100 * c.code.toNat + tt.toNat := by
  have hsub : (c.code.setWidth 4).toNat = c.code.toNat := BitVec.toNat_setWidth_of_le (by decide)
  rw [encode, packWord_toNat, hsub, Nat.mul_comm c.code.toNat]
  rfl

theorem encode_jmp_toNat (tt : Addr) : (encode (.jmp tt)).toNat = 0x8000 + tt.toNat := packWord_toNat 0x8 0x0 tt

theorem exec_bst_taken {c : ControllerState} (h : s.state = c) (tt : Addr) :
    exec (.bst c tt) s = .next { s with pc := tt } := by
  simp [exec, execBst, stateIs, goTo, h]

theorem exec_bst_notTaken {c : ControllerState} (h : s.state ≠ c) (tt : Addr) :
    exec (.bst c tt) s = .next { s with pc := s.pc + 1 } := by
  simp [exec, execBst, stateIs, advance, goTo, h]

theorem exec_jmp (tt : Addr) (s : State) : exec (.jmp tt) s = .next { s with pc := tt } := rfl

/-- Settles O44: the words as sums of their fields; STATE against the operand selects the target or PC + 1, and no other
register is written, FAULT neither. -/
theorem branchAndJump : Obligations.BranchAndJump :=
  ⟨fun c tt => ⟨encode_bst_toNat c tt, encode_jmp_toNat tt⟩,
    fun s _ tt => ⟨fun h => exec_bst_taken h tt, fun h => exec_bst_notTaken h tt, exec_jmp tt s⟩⟩

end Sys2Proof.Machine
end

section
/-! SUPPORT. Proofs about the display operations (44_display_ops.md): DISPINIT, DISP and DISP.CLR (R181 to R183) with
their words (30_encoding.md R80), and the phases of CDRUN (R184). -/

namespace Sys2Proof.Machine

variable {s : State}

/-! ### The display writes (R181 to R183) -/

/-- The digit lies in the low four bits of the word of DISP (30_encoding.md R80). -/
theorem encode_disp (d : BitVec 4) : encode (.disp d) = 0x4100 + d.setWidth 16 := by
  apply BitVec.eq_of_toNat_eq
  rw [encode, packWord_toNat]
  bv_omega

/-- A word of DISP whose low four bits are no digit fails the decode check (30_encoding.md R84). -/
theorem decodeWord_disp_notADigit :
    ∀ d : BitVec 4, 9 < d.toNat → decodeWord (0x4100 + d.setWidth 16) = .error .notADigit := by decide

theorem exec_dispinit (s : State) :
    exec .dispinit s = .next { s with segout := s.params.segBlank, pc := s.pc + 1 } := rfl

theorem exec_dispClr (s : State) :
    exec .dispClr s = .next { s with segout := s.params.segBlank, pc := s.pc + 1 } := rfl

theorem exec_disp_digit {d : BitVec 4} (h : d.toNat ≤ 9) (s : State) :
    exec (.disp d) s = .next { s with segout := segRead s.params d, pc := s.pc + 1 } := by
  have hd : isDigit d = true := decide_eq_true h
  exact if_pos hd

/-- Settles O39: a digit selects an entry of the ten of SEG; a word of DISP with a larger value decodes to no operation,
so its issue raises IllegalOp. -/
theorem displayWrites : Obligations.DisplayWrites := by
  refine ⟨rfl, rfl, encode_disp, fun s => ⟨exec_dispinit s, exec_dispClr s, fun d hd => ?digit,
    fun d hd hf hp hr => ?notADigit⟩⟩
  case digit => exact ⟨segRead s.params d, segRead_digit s.params d hd, exec_disp_digit hd s⟩
  case notADigit => exact seqStep_of_fetch_error hf hp (fetch_of_illegal hr (decodeWord_disp_notADigit d hd))

/-! ### CDRUN (R184) -/

theorem execCdrun_issue (hp : s.ph = false) :
    execCdrun s = .next (beginHold (tcuStart .s (showCountdown 9 s))) := by
  simp [execCdrun, hp]

theorem execCdrun_hold (hp : s.ph = true) (hf : s.tflag = false) : execCdrun s = .next s := by
  simp [execCdrun, timerDone, hp, hf]

theorem execCdrun_flag (hp : s.ph = true) (hf : s.tflag = true) : execCdrun s = .next (countdownStep s) := by
  simp [execCdrun, timerDone, hp, hf]

/-- Settles O40: PH, TFLAG and CDIG select the phase; the digits shown are 9 and predecessors of CDIG ≤ 9, all of which
SEG has. -/
theorem cdrunPhases : Obligations.CdrunPhases := by
  refine ⟨rfl, fun s => ⟨fun hp => ?issue, fun hp hf t ht => ?hold, fun hp hf hpos hle => ?nextDigit,
    fun hp hf hd => ?complete⟩⟩
  case issue => exact ⟨segRead s.params 9, segRead_digit s.params 9 (by decide), execCdrun_issue hp⟩
  case hold =>
    cases (execCdrun_hold hp hf).symm.trans ht
    rfl
  case nextDigit =>
    have hne : s.cdig ≠ 0 := by intro h; simp [h] at hpos
    have hpred : (s.cdig - 1).toNat = s.cdig.toNat - 1 := digit_pred_toNat hne
    refine ⟨s.cdig - 1, segRead s.params (s.cdig - 1), hpred, segRead_digit s.params (s.cdig - 1) (by omega), ?_⟩
    exact (execCdrun_flag hp hf).trans (by rw [countdownStep_more hne]; rfl)
  case complete => exact (execCdrun_flag hp hf).trans (by rw [countdownStep_last hd]; rfl)

end Sys2Proof.Machine
end

section
/-! SUPPORT. Proofs about the interrupt and the motor driver (60_exceptions.md): the edge detector (R213), the handler's
step (R215), the driver's truth table on L4MC's lines (R226). -/

namespace Sys2Proof.Machine

variable {s : State}

/-! ### The motor driver (R226) -/

/-- An open gate raises the line of the command's direction, and no other. -/
theorem driverAction_of_turn (hopen : s.men = true) (hturn : s.cdir ≠ .brake) :
    driverAction (in1 s) (in2 s) = .rotate s.cdir := by
  cases hdir : s.cdir with
  | brake => exact absurd hdir hturn
  | forward => simp [in1, in2, hopen, hdir, Direction.code, driverAction]
  | reverse => simp [in1, in2, hopen, hdir, Direction.code, driverAction]

/-- The code of Brake sets neither line's bit, whatever the gate. -/
theorem driverAction_of_brake (h : s.cdir = .brake) : driverAction (in1 s) (in2 s) = .brake := by
  simp [in1, in2, h, Direction.code, driverAction]

theorem driverAction_of_closed (h : s.men = false) : driverAction (in1 s) (in2 s) = .brake := by
  obtain ⟨h1, h2, -⟩ := motorPorts_of_closed h
  rw [h1, h2]; rfl

/-- The two lines stand for two different directions (30_encoding.md R88). -/
theorem not_in1_and_in2 (s : State) : ¬ (in1 s = true ∧ in2 s = true) := by
  rintro ⟨h1, h2⟩
  obtain ⟨-, hforward⟩ := (in1_iff s).mp h1
  obtain ⟨-, hreverse⟩ := (in2_iff s).mp h2
  exact absurd (hforward.symm.trans hreverse) (by decide)

/-- Settles O38: the driver on the lines of an open gate with a direction, of a closed gate, and of the direction Brake. -/
theorem driverFollowsTheOutputs : Obligations.DriverFollowsTheOutputs :=
  ⟨rfl, rfl, rfl, rfl, fun s => ⟨not_in1_and_in2 s, driverAction_of_turn,
    fun h => h.elim driverAction_of_closed driverAction_of_brake⟩⟩

/-! ### The handler's step (R215) -/

theorem handlerEnabled_iff (s : State) : handlerEnabled s = true ↔ s.ipend = true ∧ s.ien = true ∧ s.gie = true := by
  simp [handlerEnabled, and_assoc]

theorem isrStep_of_enabled (h : handlerEnabled s = true) : isrStep s = serveInterrupt s := if_pos h

theorem isrStep_of_disabled (h : handlerEnabled s = false) : isrStep s = s := by simp [isrStep, h]

/-- The handler's two writes, where its transition out of STATE is known. -/
theorem serveInterrupt_of_next {c : ControllerState} (h : handlerNext s.state = c) :
    serveInterrupt s = { s with ipend := false, state := c } := by
  rw [serveInterrupt, h]

/-- Settles O45: the three enables decide whether the handler runs, STATE decides its transition. -/
theorem handlerStep : Obligations.HandlerStep := by
  refine fun s => ⟨fun hp hi hg => ?enabled, fun hdis t ht => ?disabled⟩
  case enabled =>
    have hrun : agentStep .isr s = .next (serveInterrupt s) :=
      congrArg _ (isrStep_of_enabled ((handlerEnabled_iff s).mpr ⟨hp, hi, hg⟩))
    refine ⟨fun hs => ?idle, fun hs => ?released, fun hs => ?fixed⟩
    case idle => exact hrun.trans (congrArg _ (serveInterrupt_of_next (congrArg handlerNext hs)))
    case released => exact hrun.trans (congrArg _ (serveInterrupt_of_next (congrArg handlerNext hs)))
    case fixed =>
      have hkeep : handlerNext s.state = s.state := by obtain hs | hs := hs <;> rw [hs] <;> rfl
      exact hrun.trans (congrArg _ (serveInterrupt_of_next hkeep))
  case disabled =>
    have hoff : handlerEnabled s = false := by
      obtain h | h | h := hdis <;> simp [handlerEnabled, h]
    cases ht
    exact isrStep_of_disabled hoff

/-! ### The edge detector (R213) -/

theorem btnStep_of_edge {b : Bool} (he : isEdge s.params.edgeMode s.btnq b = true) (hi : s.ien = true) :
    btnStep b s = { s with ipend := true, btnq := b } := by
  simp [btnStep, pendFlag, he, hi]

/-- While IEN = 0 an edge leaves no trace, and a change that is no edge never does. -/
theorem btnStep_of_noEdge {b : Bool} (h : isEdge s.params.edgeMode s.btnq b = false ∨ s.ien = false) :
    btnStep b s = { s with btnq := b } := by
  obtain h | h := h <;> simp [btnStep, pendFlag, h]

/-- Both cases of a change of `btn`, for any proposition `edge` that says what the detector selects. -/
theorem agentStep_btn_cases {edge : Prop} {b : Bool} (hedge : edge ↔ isEdge s.params.edgeMode s.btnq b = true) :
    (edge → s.ien = true → agentStep (.btn b) s = .next { s with ipend := true, btnq := b }) ∧
    (¬ edge ∨ s.ien = false → agentStep (.btn b) s = .next { s with btnq := b }) := by
  refine ⟨fun he hi => ?record, fun h => ?keep⟩
  case record => exact congrArg _ (btnStep_of_edge (hedge.mp he) hi)
  case keep =>
    rw [hedge, Bool.not_eq_true] at h
    exact congrArg _ (btnStep_of_noEdge h)

/-- Settles O46: in each mode the statement's edge is the one the detector selects; the mode at reset is the hardware's
parameter set's. -/
theorem edgeDetector : Obligations.EdgeDetector := by
  obtain ⟨-, hreset⟩ := config_params_fixed
  refine ⟨fun s b => agentStep_btn_cases ?_, hreset⟩
  cases s.params.edgeMode with
  | rising => simp [isEdge]
  | falling => simp [isEdge]
  | anyChange => simp [isEdge]

end Sys2Proof.Machine
end

section
/-! SUPPORT. Proofs about the decoder, the encoder and the opcode map (30_encoding.md section 2), and about ROM images
as bytes (20_memory.md R65). -/

namespace Sys2Proof

/-! ### Fields of a packed word (30_encoding.md R80) -/

@[simp] theorem opField_packWord (op sub : BitVec 4) (imm : Addr) : opField (packWord op sub imm) = op := by
  apply BitVec.eq_of_toNat_eq
  have := op.isLt
  have := sub.isLt
  have := imm.isLt
  simp only [opField, BitVec.extractLsb'_toNat, Machine.packWord_toNat, Nat.shiftRight_eq_div_pow]
  omega

@[simp] theorem subField_packWord (op sub : BitVec 4) (imm : Addr) : subField (packWord op sub imm) = sub := by
  apply BitVec.eq_of_toNat_eq
  have := op.isLt
  have := sub.isLt
  have := imm.isLt
  simp only [subField, BitVec.extractLsb'_toNat, Machine.packWord_toNat, Nat.shiftRight_eq_div_pow]
  omega

@[simp] theorem immField_packWord (op sub : BitVec 4) (imm : Addr) : immField (packWord op sub imm) = imm := by
  apply BitVec.eq_of_toNat_eq
  have := op.isLt
  have := sub.isLt
  have := imm.isLt
  simp only [immField, BitVec.extractLsb'_toNat, Machine.packWord_toNat, Nat.shiftRight_eq_div_pow]
  omega

/-- A word is made of its three fields. -/
theorem packWord_fields (w : Word) : packWord (opField w) (subField w) (immField w) = w := by
  simp [word_eq_iff_fields]

/-! ### Decoding an encoded instruction -/

theorem decode_encode_disp : ∀ d : BitVec 4, isDigit d = true → decodeWord (encode (.disp d)) = .ok (.disp d) := by
  decide

theorem decodeBst_code (c : ControllerState) (tt : Addr) :
    decodeBst (c.code.setWidth 4) tt = .ok (.bst c tt) := by cases c <;> rfl

theorem decode_encode_bst (c : ControllerState) (tt : Addr) :
    decodeWord (encode (.bst c tt)) = .ok (.bst c tt) := by
  simp [decodeWord, encode, decodeBst_code]

theorem decode_encode_jmp (tt : Addr) : decodeWord (encode (.jmp tt)) = .ok (.jmp tt) := by
  simp [decodeWord, encode, decodeJmp]

theorem decode_encode {i : Instr} (h : i.wellFormed = true) : decodeWord (encode i) = .ok i := by
  cases i with
  | disp d => exact decode_encode_disp d h
  | bst c tt => exact decode_encode_bst c tt
  | jmp tt => exact decode_encode_jmp tt
  | waitUs | waitMs | wait10ms | wait1s | tinit | adcinit | sample | motinit | apply | motorOff | motorOn | dispinit
  | dispClr | cdrun | irqinit | irqOff | irqOn | gieOn | strel | stidle => rfl

/-! ### Words as bytes (20_memory.md R65) -/

theorem bytesWord_toNat (hi lo : Byte) : (bytesWord hi lo).toNat = 256 * hi.toNat + lo.toNat := by
  have := hi.isLt
  have := lo.isLt
  rw [bytesWord, BitVec.toNat_ofNat]
  omega

theorem bytesWord_halves (w : Word) : bytesWord (w.extractLsb' 8 8) (w.extractLsb' 0 8) = w := by
  apply BitVec.eq_of_toNat_eq
  have := w.isLt
  simp only [bytesWord_toNat, BitVec.extractLsb'_toNat, Nat.shiftRight_eq_div_pow]
  omega

theorem wordBytes_bytesWord (hi lo : Byte) : wordBytes (bytesWord hi lo) = [hi, lo] := by
  have := hi.isLt
  have := lo.isLt
  simp only [wordBytes, List.cons.injEq, and_true, BitVec.toNat_eq, BitVec.extractLsb'_toNat, bytesWord_toNat,
    Nat.shiftRight_eq_div_pow]
  omega

theorem decodeBytes_wordBytes {w : Word} {i : Instr} (h : decodeWord w = .ok i) (rest : List Byte) :
    decodeBytes (wordBytes w ++ rest) = .ok (i, rest) := by
  simp [wordBytes, decodeBytes, bytesWord_halves, h]

/-- Settles O2: each instruction's word decodes back to it, and the two image bytes of a word give the word. -/
theorem decodeOfEncodeIsIdentity : Obligations.DecodeOfEncodeIsIdentity := fun _ hwf =>
  ⟨decode_encode hwf, decodeBytes_wordBytes (decode_encode hwf)⟩

/-- Settles O1: the decoder evaluated on each word. -/
theorem sampleWordsDecode : Obligations.SampleWordsDecode := by
  unfold Obligations.SampleWordsDecode
  decide

/-! ### Encoding a decoded word -/

/-- `i` is what the word of the three fields stands for, as far as R82's columns "word" and "extra condition" say. -/
structure Encodes (i : Instr) (op sub : BitVec 4) (imm : Addr) : Prop where
  wellFormed : i.wellFormed = true
  word : encode i = packWord op sub imm

theorem eq_of_bare {imm : Addr} {i j : Instr} (h : bare imm i = .ok j) : imm = 0#8 ∧ j = i := by
  unfold bare at h
  split at h
  · cases h; exact ⟨by assumption, rfl⟩
  · cases h

theorem decodeTimer_encodes {sub : BitVec 4} {imm : Addr} {i : Instr} (h : decodeTimer sub imm = .ok i) :
    Encodes i 0x1 sub imm := by
  unfold decodeTimer at h
  split_ifs at h <;> obtain ⟨rfl, rfl⟩ := eq_of_bare h <;> subst sub <;> exact ⟨rfl, rfl⟩

theorem decodeAdc_encodes {sub : BitVec 4} {imm : Addr} {i : Instr} (h : decodeAdc sub imm = .ok i) :
    Encodes i 0x2 sub imm := by
  unfold decodeAdc at h
  split_ifs at h <;> obtain ⟨rfl, rfl⟩ := eq_of_bare h <;> subst sub <;> exact ⟨rfl, rfl⟩

theorem decodeMotor_encodes {sub : BitVec 4} {imm : Addr} {i : Instr} (h : decodeMotor sub imm = .ok i) :
    Encodes i 0x3 sub imm := by
  unfold decodeMotor at h
  split_ifs at h <;> obtain ⟨rfl, rfl⟩ := eq_of_bare h <;> subst sub <;> exact ⟨rfl, rfl⟩

/-- An immediate with a zero high half is its low half. -/
theorem imm_eq_low_half : ∀ imm : Addr, imm.extractLsb' 4 4 = 0#4 → (imm.extractLsb' 0 4).setWidth 8 = imm := by decide

theorem decodeDisp_encodes {imm : Addr} {i : Instr} (h : decodeDisp imm = .ok i) : Encodes i 0x4 0x1 imm := by
  unfold decodeDisp at h
  split_ifs at h with hhigh hdigit
  cases h
  exact ⟨hdigit, by rw [encode, imm_eq_low_half imm (by simpa using hhigh)]⟩

theorem decodeDisplay_encodes {sub : BitVec 4} {imm : Addr} {i : Instr} (h : decodeDisplay sub imm = .ok i) :
    Encodes i 0x4 sub imm := by
  unfold decodeDisplay at h
  split_ifs at h with h0 h1 h2 h3 <;> subst sub
  · obtain ⟨rfl, rfl⟩ := eq_of_bare h; exact ⟨rfl, rfl⟩
  · exact decodeDisp_encodes h
  · obtain ⟨rfl, rfl⟩ := eq_of_bare h; exact ⟨rfl, rfl⟩
  · obtain ⟨rfl, rfl⟩ := eq_of_bare h; exact ⟨rfl, rfl⟩

theorem decodeIrq_encodes {sub : BitVec 4} {imm : Addr} {i : Instr} (h : decodeIrq sub imm = .ok i) :
    Encodes i 0x5 sub imm := by
  unfold decodeIrq at h
  split_ifs at h <;> obtain ⟨rfl, rfl⟩ := eq_of_bare h <;> subst sub <;> exact ⟨rfl, rfl⟩

theorem decodeTransition_encodes {sub : BitVec 4} {imm : Addr} {i : Instr} (h : decodeTransition sub imm = .ok i) :
    Encodes i 0x6 sub imm := by
  unfold decodeTransition at h
  split_ifs at h <;> obtain ⟨rfl, rfl⟩ := eq_of_bare h <;> subst sub <;> exact ⟨rfl, rfl⟩

/-- A `sub` field with a zero high half is its low half, a state code. -/
theorem sub_eq_low_half :
    ∀ sub : BitVec 4, sub.extractLsb' 2 2 = 0#2 → (sub.extractLsb' 0 2).setWidth 4 = sub := by decide

theorem decodeBst_encodes {sub : BitVec 4} {imm : Addr} {i : Instr} (h : decodeBst sub imm = .ok i) :
    Encodes i 0x7 sub imm := by
  unfold decodeBst at h
  split_ifs at h with hhigh
  cases h
  exact ⟨rfl, by rw [encode, Machine.code_ofCode, sub_eq_low_half sub hhigh]⟩

theorem decodeJmp_encodes {sub : BitVec 4} {imm : Addr} {i : Instr} (h : decodeJmp sub imm = .ok i) :
    Encodes i 0x8 sub imm := by
  unfold decodeJmp at h
  split_ifs at h with hsub
  cases h
  exact ⟨rfl, by subst hsub; rfl⟩

theorem decodeWord_encodes {w : Word} {i : Instr} (h : decodeWord w = .ok i) :
    Encodes i (opField w) (subField w) (immField w) := by
  unfold decodeWord at h
  dsimp only at h
  split_ifs at h with h1 h2 h3 h4 h5 h6 h7 h8
  · rw [h1]; exact decodeTimer_encodes h
  · rw [h2]; exact decodeAdc_encodes h
  · rw [h3]; exact decodeMotor_encodes h
  · rw [h4]; exact decodeDisplay_encodes h
  · rw [h5]; exact decodeIrq_encodes h
  · rw [h6]; exact decodeTransition_encodes h
  · rw [h7]; exact decodeBst_encodes h
  · rw [h8]; exact decodeJmp_encodes h

/-- Each instruction's row is in the table, whatever its operands. -/
theorem opcodeRow_mem_opcodeRows (i : Instr) : opcodeRow i ∈ opcodeRows := by
  cases i <;> simp [opcodeRows, opcodeRow]

/-- The row of an instruction selects its word: the family RowSelects, instruction by instruction. -/
theorem opcodeRow_selects_encode (i : Instr) : Laws.RowSelects.Statement i := by
  cases i with
  | waitUs => exact Laws.RowSelects.waitUs
  | waitMs => exact Laws.RowSelects.waitMs
  | wait10ms => exact Laws.RowSelects.wait10ms
  | wait1s => exact Laws.RowSelects.wait1s
  | tinit => exact Laws.RowSelects.tinit
  | adcinit => exact Laws.RowSelects.adcinit
  | sample => exact Laws.RowSelects.sample
  | motinit => exact Laws.RowSelects.motinit
  | apply => exact Laws.RowSelects.apply
  | motorOff => exact Laws.RowSelects.motorOff
  | motorOn => exact Laws.RowSelects.motorOn
  | dispinit => exact Laws.RowSelects.dispinit
  | disp d => exact Laws.RowSelects.disp d
  | dispClr => exact Laws.RowSelects.dispClr
  | cdrun => exact Laws.RowSelects.cdrun
  | irqinit => exact Laws.RowSelects.irqinit
  | irqOff => exact Laws.RowSelects.irqOff
  | irqOn => exact Laws.RowSelects.irqOn
  | gieOn => exact Laws.RowSelects.gieOn
  | strel => exact Laws.RowSelects.strel
  | stidle => exact Laws.RowSelects.stidle
  | bst c tt => exact Laws.RowSelects.bst c tt
  | jmp tt => exact Laws.RowSelects.jmp tt

/-- Settles O3: each group's decoder answers an instruction whose word has the fields it read. -/
theorem encodeOfDecodeIsIdentity : Obligations.EncodeOfDecodeIsIdentity := by
  intro w i h
  obtain ⟨hwf, hword⟩ := decodeWord_encodes h
  have hencode : encode i = w := hword.trans (packWord_fields w)
  exact ⟨hwf, hencode, opcodeRow_mem_opcodeRows i, hencode ▸ opcodeRow_selects_encode i hwf⟩

/-! ### The rows of the opcode map (R83) -/

/-- A word that two rows select has the patterns of both, so the patterns agree where both masks look. -/
theorem OpcodeRow.patterns_agree {a b : OpcodeRow} {w : Word} (ha : a.selects w = true) (hb : b.selects w = true) :
    a.pattern &&& b.mask = b.pattern &&& a.mask := by
  simp only [selects, Bool.and_eq_true, decide_eq_true_iff] at ha hb
  rw [← ha.1, ← hb.1, BitVec.and_assoc, BitVec.and_assoc, BitVec.and_comm a.mask]

/-- Settles O5: the patterns of any two rows differ where both masks look. -/
theorem opcodeRowsAreDisjoint : Obligations.OpcodeRowsAreDisjoint := by
  have hdiffer : opcodeRows.Pairwise fun a b => a.pattern &&& b.mask ≠ b.pattern &&& a.mask := by decide
  exact ⟨rfl, hdiffer.imp fun hne _ hboth => hne (OpcodeRow.patterns_agree hboth.1 hboth.2)⟩

/-! ### ROM images (20_memory.md R65) -/

theorem imageWords_imageBytes (rom : List Word) : imageWords (imageBytes rom) = some rom := by
  induction rom with
  | nil => rfl
  | cons w rom ih =>
    simp only [imageBytes] at ih
    simp [imageBytes, wordBytes, imageWords, bytesWord_halves, ih]

theorem imageBytes_of_imageWords {bytes : List Byte} {rom : List Word} (h : imageWords bytes = some rom) :
    imageBytes rom = bytes := by
  induction bytes using imageWords.induct generalizing rom with
  | case1 => cases h; rfl
  | case2 b => cases h
  | case3 hi lo rest ih =>
    obtain ⟨ws, hws, rfl⟩ := Option.map_eq_some_iff.mp h
    have hrest : ws.flatMap wordBytes = rest := ih hws
    simp [imageBytes, wordBytes_bytesWord, hrest]

/-- Settles O6: both round trips word by word, and the value of a pair of bytes. -/
theorem romImageBytesRoundTrip : Obligations.RomImageBytesRoundTrip :=
  ⟨imageWords_imageBytes, fun _ _ => imageBytes_of_imageWords, bytesWord_toNat, by decide⟩

end Sys2Proof
end

section
/-! SUPPORT. What every step of an agent and every operation writes (10_state.md R20, column "writers"), that each of
them answers a next state (00_scope.md section 5), and where PC goes (43_control_ops.md R169). -/

namespace Sys2Proof.Machine

variable {s t : State}

/-! ### Every step answers a next state -/

theorem waitEngine_total (k : WaitKind) (s : State) : ∃ t, waitEngine k s = .next t := by
  cases hp : s.ph with
  | false => exact ⟨_, waitEngine_issue k hp⟩
  | true =>
    cases hf : s.tflag with
    | false => exact ⟨_, waitEngine_hold k hp hf⟩
    | true => exact ⟨_, waitEngine_subEnd k hp hf⟩

theorem execAdcinit_total (s : State) : ∃ t, execAdcinit s = .next t := by
  cases hp : s.ph with
  | false => exact ⟨_, execAdcinit_issue hp⟩
  | true =>
    cases hc : s.adsc with
    | false => exact ⟨_, execAdcinit_complete hp hc⟩
    | true => exact ⟨_, execAdcinit_hold hp hc⟩

theorem execSample_total (s : State) : ∃ t, execSample s = .next t := by
  cases hp : s.ph with
  | false => exact ⟨_, execSample_issue hp⟩
  | true =>
    cases hc : s.adsc with
    | false => exact ⟨_, execSample_complete hp hc⟩
    | true => exact ⟨_, execSample_hold hp hc⟩

theorem execCdrun_total (s : State) : ∃ t, execCdrun s = .next t := by
  cases hp : s.ph with
  | false => exact ⟨_, execCdrun_issue hp⟩
  | true =>
    cases hf : s.tflag with
    | false => exact ⟨_, execCdrun_hold hp hf⟩
    | true => exact ⟨_, execCdrun_flag hp hf⟩

theorem execDisp_total (d : BitVec 4) (s : State) : ∃ t, execDisp d s = .next t := by
  unfold execDisp
  split <;> exact ⟨_, rfl⟩

theorem exec_total (i : Instr) (s : State) : ∃ t, exec i s = .next t := by
  cases i with
  | waitUs | waitMs | wait10ms | wait1s => exact waitEngine_total _ s
  | adcinit => exact execAdcinit_total s
  | sample => exact execSample_total s
  | cdrun => exact execCdrun_total s
  | disp d => exact execDisp_total d s
  | tinit | motinit | apply | motorOff | motorOn | dispinit | dispClr | irqinit | irqOff | irqOn | gieOn | strel
  | stidle | bst c tt | jmp tt => exact ⟨_, rfl⟩

theorem seqStep_total (s : State) : ∃ t, seqStep s = .next t := by
  unfold seqStep
  split
  · exact ⟨_, rfl⟩
  · split
    · split <;> exact ⟨_, rfl⟩
    · split
      · exact ⟨_, rfl⟩
      · exact exec_total _ s

theorem agentStep_total (m : Move) (s : State) : ∃ t, agentStep m s = .next t := by
  cases m with
  | seq => exact seqStep_total s
  | clk | pwm | adc v | btn b | isr | rst b => exact ⟨_, rfl⟩

/-- A move's answer is the next state that runs go through. -/
theorem agentStep_eq_agentNext (m : Move) (s : State) : agentStep m s = .next (agentNext m s) := by
  obtain ⟨t, h⟩ := agentStep_total m s
  rw [agentNext_of h, h]

/-- Settles O10: the agents' steps and, phase by phase, the operations. -/
theorem everyStepAnswersANextState : Obligations.EveryStepAnswersANextState :=
  ⟨fun s => agentStep_total (takeMove s).1 (takeMove s).2, exec_total⟩

theorem exists_rst_of_isRst {m : Move} (h : isRst m = true) : ∃ b, m = .rst b := by
  cases m with
  | rst b => exact ⟨b, rfl⟩
  | seq | clk | pwm | adc v | btn b | isr => cases h

theorem exists_adc_of_isAdc {m : Move} (h : isAdc m = true) : ∃ v, m = .adc v := by
  cases m with
  | adc v => exact ⟨v, rfl⟩
  | seq | clk | pwm | btn b | isr | rst b => cases h

/-! ### What an operation writes -/

/-- The columns "writers" of 10_state.md R20 for an operation: where `t` differs from `s`, `i` is a writer, and the
flags change in one direction. No operation writes the last seven. -/
structure OpWrites (i : Instr) (s t : State) : Prop where
  ph : t.ph ≠ s.ph → blocking i = true
  wrem : t.wrem ≠ s.wrem → isWait i = true
  wcfg : t.wcfg ≠ s.wcfg → isWait i = true
  mag : t.mag ≠ s.mag → i = .sample
  aden : t.aden ≠ s.aden → i = .adcinit
  adsc : t.adsc ≠ s.adsc → holdsForAdc i = true
  adrdy : t.adrdy ≠ s.adrdy → i = .adcinit
  command : t.cdir ≠ s.cdir ∨ t.cduty ≠ s.cduty → i = .motinit ∨ i = .apply
  men : t.men ≠ s.men → i = .motinit ∨ i = .motorOff ∨ i = .motorOn
  state : t.state ≠ s.state → i = .strel ∨ i = .stidle
  ien : t.ien ≠ s.ien → i = .irqinit ∨ i = .irqOff ∨ i = .irqOn
  gie : t.gie ≠ s.gie → i = .gieOn
  ipend : t.ipend ≠ s.ipend → (i = .irqinit ∨ i = .irqOff) ∧ t.ipend = false
  trun : t.trun ≠ s.trun → holdsForTimer i = true ∨ i = .tinit
  config : t.tpre ≠ s.tpre ∨ t.tcmp ≠ s.tcmp → holdsForTimer i = true
  counters : t.tdiv ≠ s.tdiv ∨ t.tcnt ≠ s.tcnt → holdsForTimer i = true ∨ i = .tinit
  tflag : t.tflag ≠ s.tflag → (holdsForTimer i = true ∨ i = .tinit) ∧ t.tflag = false
  cdig : t.cdig ≠ s.cdig → i = .cdrun
  segout : t.segout ≠ s.segout → i = .dispinit ∨ (∃ d, i = .disp d) ∨ i = .dispClr ∨ i = .cdrun
  adres : t.adres = s.adres
  pcnt : t.pcnt = s.pcnt
  btnq : t.btnq = s.btnq
  params : t.params = s.params
  rom : t.rom = s.rom
  moves : t.moves = s.moves
  draws : t.draws = s.draws

@[simp] theorem isWait_instr (k : WaitKind) : isWait k.instr = true := by cases k <;> rfl
@[simp] theorem holdsForTimer_instr (k : WaitKind) : holdsForTimer k.instr = true := by cases k <;> rfl
@[simp] theorem holdsForTimer_cdrun : holdsForTimer .cdrun = true := rfl
@[simp] theorem holdsForAdc_adcinit : holdsForAdc .adcinit = true := rfl
@[simp] theorem holdsForAdc_sample : holdsForAdc .sample = true := rfl
@[simp] theorem blocking_instr (k : WaitKind) : blocking k.instr = true := by cases k <;> rfl

theorem opWrites_refl (i : Instr) (s : State) : OpWrites i s s := by constructor <;> simp

theorem waitEngine_writes {k : WaitKind} (h : waitEngine k s = .next t) : OpWrites k.instr s t := by
  obtain ⟨-, rfl⟩ | ⟨-, -, rfl⟩ | ⟨-, -, rfl⟩ := waitEngine_cases h
  · constructor <;> simp [waitIssue]
  · exact opWrites_refl _ _
  · by_cases hw : s.wrem = 1
    · rw [waitSubEnd_last hw]; constructor <;> simp
    · rw [waitSubEnd_more hw]; constructor <;> simp

theorem execAdcinit_writes (h : execAdcinit s = .next t) : OpWrites .adcinit s t := by
  obtain ⟨-, rfl⟩ | ⟨-, -, rfl⟩ | ⟨-, -, rfl⟩ := execAdcinit_cases h
  · constructor <;> simp [blocking]
  · exact opWrites_refl _ _
  · constructor <;> simp [blocking]

theorem execSample_writes (h : execSample s = .next t) : OpWrites .sample s t := by
  obtain ⟨-, rfl⟩ | ⟨-, -, rfl⟩ | ⟨-, -, rfl⟩ := execSample_cases h
  · constructor <;> simp [blocking]
  · exact opWrites_refl _ _
  · constructor <;> simp [blocking]

theorem execCdrun_writes (h : execCdrun s = .next t) : OpWrites .cdrun s t := by
  obtain ⟨-, rfl⟩ | ⟨-, -, rfl⟩ | ⟨-, -, rfl⟩ := execCdrun_cases h
  · constructor <;> simp [blocking]
  · exact opWrites_refl _ _
  · by_cases hd : s.cdig = 0
    · rw [countdownStep_last hd]; constructor <;> simp [blocking]
    · rw [countdownStep_more hd]; constructor <;> simp [blocking]

theorem transition_writes {i : Instr} (hi : i = .strel ∨ i = .stidle) (a b : ControllerState) :
    OpWrites i s (advance (transition a b s)) := by
  obtain ⟨-, h⟩ | ⟨-, h⟩ := transition_cases a b s <;> rw [h] <;> constructor <;> simp [hi]

theorem exec_writes {i : Instr} (h : exec i s = .next t) : OpWrites i s t := by
  cases i with
  | waitUs => exact waitEngine_writes (k := .microsecond) h
  | waitMs => exact waitEngine_writes (k := .millisecond) h
  | wait10ms => exact waitEngine_writes (k := .tenMilliseconds) h
  | wait1s => exact waitEngine_writes (k := .oneSecond) h
  | adcinit => exact execAdcinit_writes h
  | sample => exact execSample_writes h
  | cdrun => exact execCdrun_writes h
  | disp d => obtain ⟨-, rfl⟩ | ⟨-, rfl⟩ := execDisp_cases h <;> constructor <;> simp
  | strel => cases h; exact transition_writes (.inl rfl) _ _
  | stidle => cases h; exact transition_writes (.inr rfl) _ _
  | bst c tt => obtain ⟨-, rfl⟩ | ⟨-, rfl⟩ := execBst_cases h <;> constructor <;> simp
  | tinit | motinit | apply | motorOff | motorOn | dispinit | dispClr | irqinit | irqOff | irqOn | gieOn | jmp tt =>
    cases h; constructor <;> simp

/-! ### What an agent writes -/

/-- The column "writers" of 10_state.md R20 for the registers that agents other than SEQ write, but for RST. -/
structure AgentWrites (m : Move) (s t : State) : Prop where
  adsc : t.adsc ≠ s.adsc → isAdc m = true
  adres : t.adres ≠ s.adres → isAdc m = true
  pcnt : t.pcnt ≠ s.pcnt → m = .pwm
  state : t.state ≠ s.state → m = .isr
  ipend : t.ipend ≠ s.ipend → (∃ b, m = .btn b ∧ t.ipend = true) ∨ (m = .isr ∧ t.ipend = false)
  btnq : t.btnq ≠ s.btnq → m = .btn t.btnq
  counters : t.tdiv ≠ s.tdiv ∨ t.tcnt ≠ s.tcnt → m = .clk
  tflag : t.tflag ≠ s.tflag → m = .clk ∧ t.tflag = true

theorem clkStep_writes (s : State) : AgentWrites .clk s (clkStep s) := by
  obtain ⟨-, h⟩ | ⟨-, -, h⟩ | ⟨-, -, h⟩ := clkStep_cases s <;> rw [h] <;> constructor <;> simp [compareFlag]
  exact fun heq _ => .inl heq

theorem adcStep_writes (v : BitVec 10) (s : State) : AgentWrites (.adc v) s (adcStep v s) := by
  obtain ⟨-, h⟩ | ⟨-, -, h⟩ | ⟨-, -, h⟩ := adcStep_cases v s <;> rw [h] <;> constructor <;> simp [isAdc]

theorem btnStep_writes (b : Bool) (s : State) : AgentWrites (.btn b) s (btnStep b s) := by
  constructor <;> simp [btnStep, pendFlag]
  exact fun hedge hien _ => .inl ⟨hedge, hien⟩

theorem isrStep_writes (s : State) : AgentWrites .isr s (isrStep s) := by
  obtain ⟨-, h⟩ | ⟨-, h⟩ := isrStep_cases s <;> rw [h] <;> constructor <;> simp

theorem agentStep_writes {m : Move} (hseq : m ≠ .seq) (hrst : isRst m = false) (h : agentStep m s = .next t) :
    AgentWrites m s t := by
  cases m with
  | seq => exact absurd rfl hseq
  | clk => cases h; exact clkStep_writes s
  | pwm => cases h; constructor <;> simp [pwmStep]
  | adc v => cases h; exact adcStep_writes v s
  | btn b => cases h; exact btnStep_writes b s
  | isr => cases h; exact isrStep_writes s
  | rst b => exact absurd hrst (by simp)

/-! ### The writers of each register (10_state.md R20) -/

/-- Where SEQ's step changes anything but FAULT and FCAUSE, the operation at PC wrote it. -/
theorem seqStep_writes_cases (h : seqStep s = .next t) :
    t = s ∨ (∃ c, t = raiseSeqFault c s) ∨ ∃ i, opAt s = some i ∧ OpWrites i s t := by
  obtain ⟨-, rfl⟩ | ⟨-, -, rfl, -⟩ | ⟨-, -, -, c, -, rfl⟩ | ⟨-, i, hop, -, he⟩ := seqStep_cases h
  · exact .inl rfl
  · exact .inl rfl
  · exact .inr (.inl ⟨c, rfl⟩)
  · exact .inr (.inr ⟨i, hop, exec_writes he⟩)

theorem bySeq_of_opAt {f : Instr → Bool} {i : Instr} (hop : opAt s = some i) (h : f i = true) : bySeq f .seq s :=
  ⟨rfl, i, hop, h⟩

/-- Settles O13: agents other than SEQ keep SEQ's registers and write their own; SEQ's step writes what the operation at
PC writes, besides PC, FAULT and FCAUSE. -/
theorem eachRegisterHasItsWriters : Obligations.EachRegisterHasItsWriters := by
  intro m s t h hrst
  by_cases hm : m = .seq
  · subst hm
    obtain rfl | ⟨c, rfl⟩ | ⟨i, hop, hw⟩ := seqStep_writes_cases h
    · simp
    · simp
    · have written {f : Instr → Bool} (hf : f i = true) : bySeq f .seq s := bySeq_of_opAt hop hf
      refine ⟨fun _ => rfl, fun hne => written (hw.ph hne), fun hne => written (hw.wrem hne),
        fun hne => written (hw.wcfg hne), fun _ => rfl, fun _ => rfl, fun hne => written (by simpa using hw.mag hne),
        fun hne => written (by simpa using hw.aden hne),
        fun hne => .inl (written (hw.adsc hne)), fun hne => absurd hw.adres hne,
        fun hne => written (by simpa using hw.adrdy hne), fun hne => written (by simpa using hw.command hne),
        fun hne => written (by simpa using hw.men hne), fun hne => absurd hw.pcnt hne,
        fun hne => .inr (written (by simpa using hw.state hne)), fun hne => written (by simpa using hw.ien hne),
        fun hne => written (by simpa using hw.gie hne), fun hne => ?ipend, fun hne => absurd hw.btnq hne,
        fun hne => written (by simpa using hw.trun hne), fun hne => written (hw.config hne),
        fun hne => .inr (written (by simpa using hw.counters hne)), fun hne => ?tflag,
        fun hne => written (by simpa using hw.cdig hne), fun hne => written (by simpa using hw.segout hne)⟩
      case ipend =>
        obtain ⟨hi, h0⟩ := hw.ipend hne
        exact .inr (.inr ⟨written (by simpa using hi), h0⟩)
      case tflag =>
        obtain ⟨hi, h0⟩ := hw.tflag hne
        exact .inr ⟨written (by simpa using hi), h0⟩
  · have hk := agentStep_seqRegisters hm hrst h
    have hw := agentStep_writes hm hrst h
    exact ⟨absurd hk.pc, absurd hk.ph, absurd hk.wrem, absurd hk.wcfg, absurd hk.fault, absurd hk.fcause, absurd hk.mag,
      absurd hk.aden, fun hne => .inr (hw.adsc hne), hw.adres, absurd hk.adrdy,
      fun hne => hne.elim (absurd hk.cdir) (absurd hk.cduty), absurd hk.men, hw.pcnt, fun hne => .inl (hw.state hne),
      absurd hk.ien, absurd hk.gie, fun hne => (hw.ipend hne).imp_right .inl, hw.btnq, absurd hk.trun,
      fun hne => hne.elim (absurd hk.tpre) (absurd hk.tcmp), fun hne => .inl (hw.counters hne),
      fun hne => .inl (hw.tflag hne), absurd hk.cdig, absurd hk.segout⟩

/-! ### ROM and parameters (20_memory.md R74) -/

theorem romRead_congr (h : t.rom = s.rom) (a : Addr) : romRead t a = romRead s a := by simp [romRead, h]

/-- No move writes the ROM or the parameters, RST's neither. -/
theorem agentStep_rom_params {m : Move} (h : agentStep m s = .next t) : t.rom = s.rom ∧ t.params = s.params := by
  by_cases hm : m = .seq
  · subst hm
    obtain rfl | ⟨c, rfl⟩ | ⟨i, -, hw⟩ := seqStep_writes_cases h
    · exact ⟨rfl, rfl⟩
    · exact ⟨rfl, rfl⟩
    · exact ⟨hw.rom, hw.params⟩
  · cases hrst : isRst m with
    | false =>
      have hk := agentStep_seqRegisters hm hrst h
      exact ⟨hk.rom, hk.params⟩
    | true =>
      obtain ⟨b, rfl⟩ := exists_rst_of_isRst hrst
      cases h
      exact ⟨rfl, rfl⟩

/-- Taking a move writes the model's own list of moves and count of draws only (log 3). -/
theorem takeMove_state (s : State) :
    (takeMove s).2 = { s with moves := (takeMove s).2.moves, draws := (takeMove s).2.draws } := by
  unfold takeMove
  split <;> rfl

theorem step_rom_params (h : step s = .next t) : t.rom = s.rom ∧ t.params = s.params := by
  obtain ⟨hrom, hparams⟩ := agentStep_rom_params (step_cases h)
  rw [takeMove_state] at hrom hparams
  exact ⟨hrom, hparams⟩

/-- Settles O14: no move and no operation writes the two fields, and a fetch reads the ROM alone. -/
theorem romIsNeverWritten : Obligations.RomIsNeverWritten := by
  refine ⟨fun s t h => ?_, fun i s t h => ?_⟩
  · obtain ⟨hrom, hparams⟩ := step_rom_params h
    exact ⟨hrom, hparams, romRead_congr hrom⟩
  · have hw := exec_writes h
    exact ⟨hw.rom, hw.params, romRead_congr hw.rom⟩

/-! ### Where PC goes (43_control_ops.md R169) -/

theorem waitEngine_pc {k : WaitKind} (h : waitEngine k s = .next t) :
    (t.pc = s.pc ∧ t.ph = true) ∨ t.pc = s.pc + 1 := by
  obtain ⟨-, rfl⟩ | ⟨hp, -, rfl⟩ | ⟨hp, -, rfl⟩ := waitEngine_cases h
  · exact .inl ⟨rfl, rfl⟩
  · exact .inl ⟨rfl, hp⟩
  · by_cases hw : s.wrem = 1
    · rw [waitSubEnd_last hw]; exact .inr rfl
    · rw [waitSubEnd_more hw]; exact .inl ⟨rfl, hp⟩

theorem execAdcinit_pc (h : execAdcinit s = .next t) : (t.pc = s.pc ∧ t.ph = true) ∨ t.pc = s.pc + 1 := by
  obtain ⟨-, rfl⟩ | ⟨hp, -, rfl⟩ | ⟨hp, -, rfl⟩ := execAdcinit_cases h
  · exact .inl ⟨rfl, rfl⟩
  · exact .inl ⟨rfl, hp⟩
  · exact .inr rfl

theorem execSample_pc (h : execSample s = .next t) : (t.pc = s.pc ∧ t.ph = true) ∨ t.pc = s.pc + 1 := by
  obtain ⟨-, rfl⟩ | ⟨hp, -, rfl⟩ | ⟨hp, -, rfl⟩ := execSample_cases h
  · exact .inl ⟨rfl, rfl⟩
  · exact .inl ⟨rfl, hp⟩
  · exact .inr rfl

theorem execCdrun_pc (h : execCdrun s = .next t) : (t.pc = s.pc ∧ t.ph = true) ∨ t.pc = s.pc + 1 := by
  obtain ⟨-, rfl⟩ | ⟨hp, -, rfl⟩ | ⟨hp, -, rfl⟩ := execCdrun_cases h
  · exact .inl ⟨rfl, rfl⟩
  · exact .inl ⟨rfl, hp⟩
  · by_cases hd : s.cdig = 0
    · rw [countdownStep_last hd]; exact .inr rfl
    · rw [countdownStep_more hd]; exact .inl ⟨rfl, hp⟩

theorem transition_pc (a b : ControllerState) (s : State) : (transition a b s).pc = s.pc := by
  obtain ⟨-, h⟩ | ⟨-, h⟩ := transition_cases a b s <;> rw [h]

/-- An operation holds or faults where it stands, goes on to the next word, or branches. -/
theorem exec_pc_cases {i : Instr} (h : exec i s = .next t) :
    (t.pc = s.pc ∧ (t.ph = true ∨ t.fault = true)) ∨ t.pc = s.pc + 1 ∨ (∃ tt, i = .jmp tt ∧ t.pc = tt) ∨
      ∃ c tt, i = .bst c tt ∧ s.state = c ∧ t.pc = tt := by
  cases i with
  | waitUs | waitMs | wait10ms | wait1s => exact (waitEngine_pc h).imp (And.imp_right .inl) .inl
  | adcinit => exact (execAdcinit_pc h).imp (And.imp_right .inl) .inl
  | sample => exact (execSample_pc h).imp (And.imp_right .inl) .inl
  | cdrun => exact (execCdrun_pc h).imp (And.imp_right .inl) .inl
  | disp d =>
    obtain ⟨-, rfl⟩ | ⟨-, rfl⟩ := execDisp_cases h
    · exact .inr (.inl rfl)
    · exact .inl ⟨rfl, .inr rfl⟩
  | strel | stidle => cases h; exact .inr (.inl (by rw [advance_pc, transition_pc]))
  | tinit | motinit | apply | motorOff | motorOn | dispinit | dispClr | irqinit | irqOff | irqOn | gieOn =>
    cases h; exact .inr (.inl rfl)
  | bst c tt =>
    obtain ⟨hc, rfl⟩ | ⟨-, rfl⟩ := execBst_cases h
    · exact .inr (.inr (.inr ⟨c, tt, rfl, hc, rfl⟩))
    · exact .inr (.inl rfl)
  | jmp tt => cases h; exact .inr (.inr (.inl ⟨tt, rfl, rfl⟩))

theorem addr_succ_ne (a : Addr) : a + 1 ≠ a := by bv_omega

/-- Settles O11: where PC stays, the case is not the one that goes on to the next word. -/
theorem onlyBranchesRedirectPc : Obligations.OnlyBranchesRedirectPc := by
  intro i s t h
  obtain ⟨hpc, hstay⟩ | hpc | ⟨tt, rfl, hpc⟩ | ⟨c, tt, rfl, hc, hpc⟩ := exec_pc_cases h
  · exact ⟨.inl hpc, fun _ => hstay.imp_right .inl⟩
  · exact ⟨.inr (.inl hpc), fun heq => absurd (hpc.symm.trans heq) (addr_succ_ne s.pc)⟩
  · exact ⟨.inr (.inr (.inl ⟨tt, rfl, hpc⟩)), fun heq => .inr (.inr (.inl (by rw [← heq, hpc])))⟩
  · exact ⟨.inr (.inr (.inr ⟨c, tt, rfl, hc, hpc⟩)), fun heq => .inr (.inr (.inr ⟨c, by rw [← heq, hpc], hc⟩))⟩

/-! ### The step of the agent that moves -/

/-- Settles O7: the move that is taken selects the agent, and SEQ issues what it decodes at PC. -/
theorem stepRunsTheDecodedOperation : Obligations.StepRunsTheDecodedOperation := by
  refine fun s i w => ⟨fun m ms hms => ?listed, fun hms => ?free, fun ms hms hf hp hr hd => ?issue⟩
  case listed => simp [step, takeMove, hms]
  case free => simp [step, takeMove, hms]
  case issue =>
    have hop : opAt { s with moves := ms } = some i := opAt_of_read (w := w) hr hd
    simp only [step, takeMove, hms, agentStep_seq]
    exact seqStep_exec hf hop (.inl hp)

/-- Settles O12: each of the seven operations has a lemma for its hold. -/
theorem holdAnswersTheSameState : Obligations.HoldAnswersTheSameState := by
  refine fun s hp => ⟨fun hf i hi => ?timer, fun hc i hi => ?converter⟩
  case timer =>
    simp only [List.mem_cons, List.not_mem_nil, or_false] at hi
    obtain rfl | rfl | rfl | rfl | rfl := hi
    · exact waitEngine_hold .microsecond hp hf
    · exact waitEngine_hold .millisecond hp hf
    · exact waitEngine_hold .tenMilliseconds hp hf
    · exact waitEngine_hold .oneSecond hp hf
    · exact execCdrun_hold hp hf
  case converter =>
    simp only [List.mem_cons, List.not_mem_nil, or_false] at hi
    obtain rfl | rfl := hi
    · exact execAdcinit_hold hp hc
    · exact execSample_hold hp hc

/-! ### The converter's completion (41_adc_ops.md R121) -/

theorem adcStep_trusted (v : BitVec 10) (hc : s.adsc = true) (hr : s.adrdy = true) : adcStep v s = deliver v s := by
  simp [adcStep, hc, hr]

theorem adcStep_untrusted (v : BitVec 10) (hc : s.adsc = true) (hr : s.adrdy = false) :
    adcStep v s = deliver (Config.freeCode s.draws) { s with draws := s.draws + 1 } := by
  simp [adcStep, hc, hr]

theorem adcStep_idle (v : BitVec 10) (hc : s.adsc = false) : adcStep v s = s := by simp [adcStep, hc]

/-- Settles O26: ADSC and ADRDY select the case; the free value is the draw's. -/
theorem conversionCompletion : Obligations.ConversionCompletion := by
  refine fun s ain => ⟨fun hc hr => ?trusted, fun hc hr => ⟨Config.freeCode s.draws, ?untrusted⟩, fun hc t ht => ?idle⟩
  case trusted => rw [agentStep_adc, adcStep_trusted ain hc hr]; rfl
  case untrusted => rw [agentStep_adc, adcStep_untrusted ain hc hr]; rfl
  case idle =>
    cases ht
    exact adcStep_idle ain hc

/-! ### Reset (70_reset_and_hazards.md R240) -/

/-- Settles O51: the reset state is a function of the four fields that survive. -/
theorem resetStep : Obligations.ResetStep := by
  refine fun s level => ⟨rstStep level s, rfl, rfl, rfl, rfl, fun u hrom hparams hmoves hdraws => ?_⟩
  simp [rstStep, hrom, hparams, hmoves, hdraws]

theorem afterReset_ports (p : Params) (rom : List Word) (b : Bool) (u : Unspecified) (ms : List Move) (n : Nat)
    (x : BitVec 10) :
    State.ports { State.afterReset p rom b u with moves := ms, draws := n, pcnt := x } =
      { adcStart := false, in1 := false, in2 := false, dutyOut := 0, pwm := false, seg := p.segBlank, fault := false,
        fcause := 0 } := by
  simp [State.ports, State.afterReset, in1, in2, dutyOut, pwmLine, FaultCause.code]

/-- Settles O52: the launch state and the state after an RST step are `afterReset`, whose gate is closed. -/
theorem resetPorts : Obligations.ResetPorts := by
  intro t h x
  obtain rfl | ⟨s, level, hs⟩ := h
  · exact afterReset_ports _ _ _ _ _ _ x
  · cases hs
    exact afterReset_ports _ _ _ _ _ _ x

end Sys2Proof.Machine
end

section
/-! SUPPORT. The invariants of 10_state.md R40 and the model's bounds: the three phases they distinguish, at reset, and
under every step. -/

namespace Sys2Proof.Machine

variable {s t : State}

/-! ### The invariants by phase -/

/-- The invariants that speak of no operation at PC. -/
structure RegistersOk (s : State) : Prop where
  pendingNeedsEnable : s.ien = false → s.ipend = false
  dutyEven : s.cduty.toNat % 2 = 0 ∧ s.cduty.toNat ≤ 1022 ∧ s.cdir.code ≠ 0b11#2
  brakeZero : s.cdir = .brake → s.cduty = 0
  causeWithFault : s.fault = true ↔ s.fcause ≠ .none
  tcuWidths : s.tcnt < 2 ^ s.params.wCnt ∧ s.tcmp < 2 ^ s.params.wCnt ∧ s.tpre < 2 ^ s.params.preWidth ∧
    s.tdiv < 2 ^ s.params.preWidth
  resultAdjusted : s.adres.extractLsb' 10 6 = 0#6
  readyEnabled : s.adrdy = true → s.aden = true
  romFits : Memory.wf s.rom = true

/-- Nothing is in progress: SEQ is to issue, or stopped by a fault. -/
structure NotHolding (s : State) : Prop where
  ph : s.ph = false
  trun : s.trun = false
  tflag : s.tflag = false
  adsc : s.adsc = false

/-- The running TCU: one of the three configurations, the phase within it, the threshold ahead until TFLAG is set. -/
structure TimerRuns (s : State) : Prop where
  trun : s.trun = true
  config : ∃ k, s.tpre = s.params.prescale k ∧ s.tcmp = s.params.thresh k
  phaseBelow : s.tdiv < s.tpre
  countBelow : s.tflag = false → s.tcnt < s.tcmp

/-- `i` holds for TFLAG. -/
structure TimerHold (i : Instr) (s : State) : Prop where
  op : opAt s = some i
  holds : holdsForTimer i = true
  ph : s.ph = true
  fault : s.fault = false
  adsc : s.adsc = false
  runs : TimerRuns s
  wait : ∀ k : WaitKind, i = k.instr →
    s.wcfg = kindCfg k ∧ 1 ≤ s.wrem.toNat ∧ s.wrem.toNat ≤ (kindCount k).toNat
  digit : i = .cdrun → s.cdig.toNat ≤ 9

/-- `i` holds for a conversion. -/
structure AdcHold (i : Instr) (s : State) : Prop where
  op : opAt s = some i
  holds : holdsForAdc i = true
  ph : s.ph = true
  fault : s.fault = false
  trun : s.trun = false
  tflag : s.tflag = false
  enabled : i = .adcinit → s.aden = true

/-- Nothing holds, or an operation holds for TFLAG, or one for a conversion. -/
def InPhase (s : State) : Prop := NotHolding s ∨ (∃ i, TimerHold i s) ∨ ∃ i, AdcHold i s

/-- The operations that hold for TFLAG are the four WAITs and CDRUN. -/
theorem holdsForTimer_cases {i : Instr} (h : holdsForTimer i = true) : (∃ k : WaitKind, i = k.instr) ∨ i = .cdrun := by
  simp only [holdsForTimer, isWait, Bool.or_eq_true, decide_eq_true_iff] at h
  obtain (((rfl | rfl) | rfl) | rfl) | rfl := h
  · exact .inl ⟨.microsecond, rfl⟩
  · exact .inl ⟨.millisecond, rfl⟩
  · exact .inl ⟨.tenMilliseconds, rfl⟩
  · exact .inl ⟨.oneSecond, rfl⟩
  · exact .inr rfl

theorem holdsForAdc_cases {i : Instr} (h : holdsForAdc i = true) : i = .adcinit ∨ i = .sample := by
  simpa [holdsForAdc] using h

/-- A blocking operation holds for TFLAG or for a conversion, and none for both. -/
theorem blocking_eq (i : Instr) : blocking i = (holdsForTimer i || holdsForAdc i) := by cases i <;> rfl

theorem holdsForAdc_of_timer {i : Instr} (h : holdsForTimer i = true) : holdsForAdc i = false := by
  obtain ⟨k, rfl⟩ | rfl := holdsForTimer_cases h
  · cases k <;> rfl
  · rfl

theorem Inv.registersOk (h : Inv s) : RegistersOk s :=
  ⟨h.pendingNeedsEnable, h.dutyEven, h.brakeZero, h.causeWithFault, h.tcuWidths, h.resultAdjusted, h.readyEnabled,
    h.romFits⟩

theorem Inv.notHolding (h : Inv s) (hp : s.ph = false) : NotHolding s := by
  obtain ⟨htrun, htflag⟩ := h.idleTimer hp
  refine ⟨hp, htrun, htflag, ?_⟩
  by_contra hc
  obtain ⟨hp', -⟩ := h.conversion (by simpa using hc)
  rw [hp] at hp'
  cases hp'

theorem Inv.fault_of_ph (h : Inv s) (hp : s.ph = true) : s.fault = false := by
  by_contra hf
  rw [h.faultAtIssue (by simpa using hf)] at hp
  cases hp

theorem Inv.timerHold {i : Instr} (h : Inv s) (hp : s.ph = true) (hop : opAt s = some i)
    (hi : holdsForTimer i = true) : TimerHold i s where
  op := hop
  holds := hi
  ph := hp
  fault := h.fault_of_ph hp
  adsc := by
    by_contra hc
    obtain ⟨-, hadc⟩ := h.conversion (by simpa using hc)
    rw [opIs_of_opAt hop, holdsForAdc_of_timer hi] at hadc
    cases hadc
  runs := by
    have hr := h.holdTimer hp ⟨i, hop, hi⟩
    exact ⟨hr, h.runningConfig hr, h.phaseBelow hr, h.countBelow hr⟩
  wait := fun k hk => h.waitCount k hp (hk ▸ hop)
  digit := fun hc => h.countdownDigit hp (hc ▸ hop)

theorem Inv.adcHold {i : Instr} (h : Inv s) (hp : s.ph = true) (hop : opAt s = some i) (hi : holdsForAdc i = true) :
    AdcHold i s := by
  have htrun : s.trun = false := by
    by_contra hr
    obtain ⟨-, htimer⟩ := h.runningTimer (by simpa using hr)
    rw [opIs_of_opAt hop] at htimer
    rw [holdsForAdc_of_timer htimer] at hi
    cases hi
  refine ⟨hop, hi, hp, h.fault_of_ph hp, htrun, ?_, fun ha => h.adcinitEnabled hp (ha ▸ hop)⟩
  by_contra hf
  rw [h.flagRuns (by simpa using hf)] at htrun
  cases htrun

theorem Inv.inPhase (h : Inv s) : InPhase s := by
  cases hp : s.ph with
  | false => exact .inl (h.notHolding hp)
  | true =>
    obtain ⟨i, hop, hb⟩ := h.holdBlocks hp
    rw [blocking_eq, Bool.or_eq_true] at hb
    obtain hi | hi := hb
    · exact .inr (.inl ⟨i, h.timerHold hp hop hi⟩)
    · exact .inr (.inr ⟨i, h.adcHold hp hop hi⟩)

theorem NotHolding.inv (h : NotHolding s) (hr : RegistersOk s) : Inv s := by
  obtain ⟨hp, htrun, htflag, hadsc⟩ := h
  constructor
  case pendingNeedsEnable => exact hr.pendingNeedsEnable
  case dutyEven => exact hr.dutyEven
  case brakeZero => exact hr.brakeZero
  case causeWithFault => exact hr.causeWithFault
  case tcuWidths => exact hr.tcuWidths
  case resultAdjusted => exact hr.resultAdjusted
  case readyEnabled => exact hr.readyEnabled
  case romFits => exact hr.romFits
  all_goals simp [hp, htrun, htflag, hadsc]

theorem TimerHold.inv {i : Instr} (h : TimerHold i s) (hr : RegistersOk s) : Inv s where
  pendingNeedsEnable := hr.pendingNeedsEnable
  idleTimer hp := by rw [h.ph] at hp; cases hp
  runningTimer _ := ⟨h.ph, i, h.op, h.holds⟩
  conversion hc := by rw [h.adsc] at hc; cases hc
  dutyEven := hr.dutyEven
  brakeZero := hr.brakeZero
  faultAtIssue hf := by rw [h.fault] at hf; cases hf
  causeWithFault := hr.causeWithFault
  holdBlocks _ := ⟨i, h.op, by rw [blocking_eq, h.holds]; rfl⟩
  holdTimer _ _ := h.runs.trun
  flagRuns _ := h.runs.trun
  runningConfig _ := h.runs.config
  phaseBelow _ := h.runs.phaseBelow
  countBelow _ := h.runs.countBelow
  tcuWidths := hr.tcuWidths
  waitCount k _ hop := h.wait k (Option.some.inj (h.op.symm.trans hop))
  countdownDigit _ hop := h.digit (Option.some.inj (h.op.symm.trans hop))
  resultAdjusted := hr.resultAdjusted
  readyEnabled := hr.readyEnabled
  adcinitEnabled _ hop := by
    have hi : i = .adcinit := Option.some.inj (h.op.symm.trans hop)
    have hholds := h.holds
    rw [hi] at hholds
    cases hholds
  romFits := hr.romFits

theorem AdcHold.inv {i : Instr} (h : AdcHold i s) (hr : RegistersOk s) : Inv s := by
  have hnot : ∀ j, opAt s = some j → holdsForTimer j = false := by
    intro j hop
    obtain rfl : i = j := Option.some.inj (h.op.symm.trans hop)
    obtain hi | hi := holdsForAdc_cases h.holds <;> rw [hi] <;> rfl
  refine
    { hr with
      idleTimer := fun _ => ⟨h.trun, h.tflag⟩
      runningTimer := ?running
      conversion := fun _ => ⟨h.ph, i, h.op, h.holds⟩
      faultAtIssue := ?fault
      holdBlocks := fun _ => ⟨i, h.op, by rw [blocking_eq, h.holds, Bool.or_true]⟩
      holdTimer := ?holdTimer
      flagRuns := ?flag
      runningConfig := ?config
      phaseBelow := ?phase
      countBelow := ?count
      waitCount := ?wait
      countdownDigit := ?digit
      adcinitEnabled := fun _ hop => h.enabled (Option.some.inj (h.op.symm.trans hop)) }
  case fault => simp [h.fault]
  case holdTimer =>
    rintro - ⟨j, hop, hj⟩
    rw [hnot j hop] at hj
    cases hj
  case wait =>
    intro k _ hop
    have hk := hnot _ hop
    rw [holdsForTimer_instr] at hk
    cases hk
  case digit =>
    intro _ hop
    have hc := hnot _ hop
    rw [holdsForTimer_cdrun] at hc
    cases hc
  all_goals simp [h.trun, h.tflag]

/-- R40 and the model's bounds, sorted by phase. -/
theorem inv_iff : Inv s ↔ RegistersOk s ∧ InPhase s := by
  refine ⟨fun h => ⟨h.registersOk, h.inPhase⟩, ?_⟩
  rintro ⟨hr, h | ⟨i, h⟩ | ⟨i, h⟩⟩
  · exact h.inv hr
  · exact h.inv hr
  · exact h.inv hr

/-! ### The model's own schedule -/

/-- The invariants do not read the list of moves and the count of draws. -/
theorem Inv.withSchedule (h : Inv s) (ms : List Move) (n : Nat) : Inv { s with moves := ms, draws := n } := { h with }

/-! ### At reset (10_state.md R41) -/

theorem afterReset_registersOk (p : Params) {rom : List Word} (hrom : Memory.wf rom = true) (b : Bool)
    (u : Unspecified) : RegistersOk (State.afterReset p rom b u) where
  pendingNeedsEnable _ := rfl
  dutyEven := by refine ⟨?_, ?_, ?_⟩ <;> simp [State.afterReset, Direction.code]
  brakeZero _ := rfl
  causeWithFault := by simp [State.afterReset]
  tcuWidths :=
    ⟨Nat.mod_lt _ (by positivity), Nat.mod_lt _ (by positivity), Nat.mod_lt _ (by positivity),
      Nat.mod_lt _ (by positivity)⟩
  resultAdjusted := adresOfCode_high u.adres
  readyEnabled h := by cases h
  romFits := hrom

theorem afterReset_inv (p : Params) {rom : List Word} (hrom : Memory.wf rom = true) (b : Bool) (u : Unspecified) :
    Inv (State.afterReset p rom b u) :=
  NotHolding.inv ⟨rfl, rfl, rfl, rfl⟩ (afterReset_registersOk p hrom b u)

/-- Settles O53: nothing is in progress after reset, and each register has a value in its bounds. -/
theorem invariantAtReset : Obligations.InvariantAtReset := afterReset_inv _ reset_rom_wf _ _

theorem rstStep_inv (h : Inv s) (b : Bool) : Inv (rstStep b s) := (afterReset_inv _ h.romFits _ _).withSchedule _ _

/-! ### Under the other agents -/

/-- No configuration's threshold is out of the counter's reach (00_scope.md R7). -/
theorem TimerRuns.tcmp_lt (h : TimerRuns s) : s.tcmp < 2 ^ s.params.wCnt := by
  obtain ⟨k, -, hcmp⟩ := h.config
  rw [hcmp]
  exact thresh_lt s.params k

/-- A tick keeps the phase inside the prescaler, and sets TFLAG when it brings the counter to the threshold. -/
theorem clkStep_timerRuns (h : TimerRuns s) : TimerRuns (clkStep s) := by
  have hcmp := h.tcmp_lt
  obtain ⟨htrun, hconfig, hphase, hcount⟩ := h
  obtain ⟨hr, -⟩ | ⟨-, hd, heq⟩ | ⟨-, hd, heq⟩ := clkStep_cases s
  · rw [htrun] at hr; cases hr
  · rw [heq]
    exact ⟨htrun, hconfig, by show s.tdiv + 1 < s.tpre; omega, hcount⟩
  · rw [heq]
    refine ⟨htrun, hconfig, by show 0 < s.tpre; omega, fun hf => ?_⟩
    show (s.tcnt + 1) % 2 ^ s.params.wCnt < s.tcmp
    by_cases hm : (s.tcnt + 1) % 2 ^ s.params.wCnt = s.tcmp
    · rw [compareFlag_of_eq hm] at hf; cases hf
    · rw [compareFlag_of_ne hm] at hf
      have hlt := hcount hf
      rw [Nat.mod_eq_of_lt (by omega)] at hm ⊢
      omega

theorem clkStep_tcuWidths (hw : RegistersOk s) (hruns : s.trun = true → s.tdiv < s.tpre) :
    (clkStep s).tcnt < 2 ^ s.params.wCnt ∧ (clkStep s).tdiv < 2 ^ s.params.preWidth := by
  obtain ⟨hcnt, -, hpre, hdiv⟩ := hw.tcuWidths
  obtain ⟨-, heq⟩ | ⟨hr, hd, heq⟩ | ⟨-, -, heq⟩ := clkStep_cases s <;> rw [heq]
  · exact ⟨hcnt, hdiv⟩
  · have := hruns hr
    exact ⟨hcnt, by show s.tdiv + 1 < _; omega⟩
  · exact ⟨Nat.mod_lt _ (by positivity), by positivity⟩

/-- Moves other than CLK's, SEQ's and RST's leave the counting registers alone. -/
theorem AgentWrites.tcu {m : Move} (h : AgentWrites m s t) (hm : m ≠ .clk) :
    t.tdiv = s.tdiv ∧ t.tcnt = s.tcnt ∧ t.tflag = s.tflag := by
  refine ⟨?_, ?_, ?_⟩ <;> by_contra hne
  · exact hm (h.counters (.inl hne))
  · exact hm (h.counters (.inr hne))
  · exact hm (h.tflag hne).1

section

variable {m : Move} (hseq : m ≠ .seq) (hrst : isRst m = false) (h : agentStep m s = .next t)

include hseq hrst h

/-- With IEN = 0 nothing becomes pending (60_exceptions.md R213). -/
theorem agentStep_ipend_of_disabled (hien : s.ien = false) (hip : s.ipend = false) : t.ipend = false := by
  by_contra hne
  obtain ⟨b, rfl, -⟩ | ⟨-, h0⟩ := (agentStep_writes hseq hrst h).ipend (by rw [hip]; exact hne)
  · cases h
    rw [btnStep_of_noEdge (.inr hien)] at hne
    exact hne hip
  · exact hne h0

theorem agentStep_adres (ha : s.adres.extractLsb' 10 6 = 0#6) : t.adres.extractLsb' 10 6 = 0#6 := by
  by_cases heq : t.adres = s.adres
  · rw [heq, ha]
  · obtain ⟨v, rfl⟩ := exists_adc_of_isAdc ((agentStep_writes hseq hrst h).adres heq)
    cases h
    obtain ⟨-, h⟩ | ⟨-, -, h⟩ | ⟨-, -, h⟩ := adcStep_cases v s <;> rw [h]
    · exact ha
    · exact adresOfCode_high _
    · exact adresOfCode_high _

theorem agentStep_tcuWidths (hinv : Inv s) :
    t.tcnt < 2 ^ s.params.wCnt ∧ t.tdiv < 2 ^ s.params.preWidth := by
  by_cases hm : m = .clk
  · subst hm
    cases h
    exact clkStep_tcuWidths hinv.registersOk hinv.phaseBelow
  · obtain ⟨hdiv, hcnt, -⟩ := (agentStep_writes hseq hrst h).tcu hm
    obtain ⟨hcnt', -, -, hdiv'⟩ := hinv.tcuWidths
    rw [hdiv, hcnt]
    exact ⟨hcnt', hdiv'⟩

theorem agentStep_registersOk (hinv : Inv s) : RegistersOk t := by
  have hk := agentStep_seqRegisters hseq hrst h
  constructor
  case pendingNeedsEnable =>
    rw [hk.ien]
    exact fun hien => agentStep_ipend_of_disabled hseq hrst h hien (hinv.pendingNeedsEnable hien)
  case dutyEven => rw [hk.cduty, hk.cdir]; exact hinv.dutyEven
  case brakeZero => rw [hk.cduty, hk.cdir]; exact hinv.brakeZero
  case causeWithFault => rw [hk.fault, hk.fcause]; exact hinv.causeWithFault
  case tcuWidths =>
    obtain ⟨-, hcmp, hpre, -⟩ := hinv.tcuWidths
    obtain ⟨hcnt, hdiv⟩ := agentStep_tcuWidths hseq hrst h hinv
    rw [hk.params, hk.tcmp, hk.tpre]
    exact ⟨hcnt, hcmp, hpre, hdiv⟩
  case resultAdjusted => exact agentStep_adres hseq hrst h hinv.resultAdjusted
  case readyEnabled => rw [hk.adrdy, hk.aden]; exact hinv.readyEnabled
  case romFits => rw [hk.rom]; exact hinv.romFits

/-- With TRUN = 0 no move but SEQ's and RST's touches the TCU. -/
theorem agentStep_tflag_of_stopped (hr : s.trun = false) : t.tflag = s.tflag := by
  by_cases hm : m = .clk
  · subst hm
    cases h
    simp [clkStep, hr]
  · exact ((agentStep_writes hseq hrst h).tcu hm).2.2

/-- With ADSC = 0 no move but SEQ's starts a conversion. -/
theorem agentStep_adsc_of_idle (hc : s.adsc = false) : t.adsc = false := by
  by_contra hne
  obtain ⟨v, rfl⟩ := exists_adc_of_isAdc ((agentStep_writes hseq hrst h).adsc (by rw [hc]; exact hne))
  cases h
  rw [adcStep_idle v hc] at hne
  exact hne hc

theorem NotHolding.of_agentStep (hn : NotHolding s) : NotHolding t := by
  have hk := agentStep_seqRegisters hseq hrst h
  exact ⟨hk.ph.trans hn.ph, hk.trun.trans hn.trun, (agentStep_tflag_of_stopped hseq hrst h hn.trun).trans hn.tflag,
    agentStep_adsc_of_idle hseq hrst h hn.adsc⟩

theorem TimerRuns.of_agentStep (hruns : TimerRuns s) : TimerRuns t := by
  by_cases hm : m = .clk
  · subst hm
    cases h
    exact clkStep_timerRuns hruns
  · have hk := agentStep_seqRegisters hseq hrst h
    obtain ⟨hdiv, hcnt, hflag⟩ := (agentStep_writes hseq hrst h).tcu hm
    obtain ⟨htrun, hconfig, hphase, hcount⟩ := hruns
    constructor
    case trun => rw [hk.trun, htrun]
    case config => rw [hk.tpre, hk.tcmp, hk.params]; exact hconfig
    case phaseBelow => rw [hdiv, hk.tpre]; exact hphase
    case countBelow => rw [hflag, hcnt, hk.tcmp]; exact hcount

theorem TimerHold.of_agentStep {i : Instr} (ht : TimerHold i s) : TimerHold i t := by
  have hk := agentStep_seqRegisters hseq hrst h
  constructor
  case op => rw [opAt_congr hk.rom hk.pc, ht.op]
  case holds => exact ht.holds
  case ph => rw [hk.ph, ht.ph]
  case fault => rw [hk.fault, ht.fault]
  case adsc => exact agentStep_adsc_of_idle hseq hrst h ht.adsc
  case runs => exact ht.runs.of_agentStep hseq hrst h
  case wait => rw [hk.wcfg, hk.wrem]; exact ht.wait
  case digit => rw [hk.cdig]; exact ht.digit

theorem AdcHold.of_agentStep {i : Instr} (ha : AdcHold i s) : AdcHold i t := by
  have hk := agentStep_seqRegisters hseq hrst h
  constructor
  case op => rw [opAt_congr hk.rom hk.pc, ha.op]
  case holds => exact ha.holds
  case ph => rw [hk.ph, ha.ph]
  case fault => rw [hk.fault, ha.fault]
  case trun => rw [hk.trun, ha.trun]
  case tflag => rw [agentStep_tflag_of_stopped hseq hrst h ha.trun, ha.tflag]
  case enabled => rw [hk.aden]; exact ha.enabled

/-- A move of an agent other than SEQ and RST stays in its phase. -/
theorem InPhase.of_agentStep (hph : InPhase s) : InPhase t := by
  obtain hn | ⟨i, ht⟩ | ⟨i, ha⟩ := hph
  · exact .inl (hn.of_agentStep hseq hrst h)
  · exact .inr (.inl ⟨i, ht.of_agentStep hseq hrst h⟩)
  · exact .inr (.inr ⟨i, ha.of_agentStep hseq hrst h⟩)

end

/-! ### Under SEQ -/

theorem tcuStart_registersOk (k : TimerCfg) (h : RegistersOk s) : RegistersOk (tcuStart k s) :=
  { h with
    tcuWidths := ⟨Nat.two_pow_pos _, thresh_lt s.params k, prescale_lt_preWidth s.params k, Nat.two_pow_pos _⟩ }

theorem waitEngine_registersOk {k : WaitKind} (hr : RegistersOk s) (h : waitEngine k s = .next t) : RegistersOk t := by
  obtain ⟨-, rfl⟩ | ⟨-, -, rfl⟩ | ⟨-, -, rfl⟩ := waitEngine_cases h
  · exact { tcuStart_registersOk (kindCfg k) hr with }
  · exact hr
  · by_cases hw : s.wrem = 1
    · rw [waitSubEnd_last hw]; exact { hr with }
    · rw [waitSubEnd_more hw]; exact { tcuStart_registersOk s.wcfg hr with }

theorem execCdrun_registersOk (hr : RegistersOk s) (h : execCdrun s = .next t) : RegistersOk t := by
  obtain ⟨-, rfl⟩ | ⟨-, -, rfl⟩ | ⟨-, -, rfl⟩ := execCdrun_cases h
  · exact { tcuStart_registersOk .s hr with }
  · exact hr
  · by_cases hd : s.cdig = 0
    · rw [countdownStep_last hd]; exact { hr with }
    · rw [countdownStep_more hd]; exact { tcuStart_registersOk .s hr with }

theorem execAdcinit_registersOk (hr : RegistersOk s) (hen : s.ph = true → s.aden = true)
    (h : execAdcinit s = .next t) : RegistersOk t := by
  obtain ⟨-, rfl⟩ | ⟨-, -, rfl⟩ | ⟨hp, -, rfl⟩ := execAdcinit_cases h
  · exact { hr with readyEnabled := fun _ => rfl }
  · exact hr
  · exact { hr with readyEnabled := fun _ => hen hp }

theorem execSample_registersOk (hr : RegistersOk s) (h : execSample s = .next t) : RegistersOk t := by
  obtain ⟨-, rfl⟩ | ⟨-, -, rfl⟩ | ⟨-, -, rfl⟩ := execSample_cases h
  · exact { hr with }
  · exact hr
  · exact { hr with }

theorem dutyMap_brakeZero (p : Params) (m : BitVec 10) (h : (dutyMap p m).1 = .brake) : (dutyMap p m).2 = 0 := by
  obtain ⟨-, hdir, -⟩ | ⟨-, hdir, -⟩ | ⟨-, -, hmap⟩ := dutyMap_cases p m
  · rw [hdir] at h; cases h
  · rw [hdir] at h; cases h
  · rw [hmap]

theorem Direction.code_ne_three (d : Direction) : d.code ≠ 0b11#2 := by cases d <;> decide

theorem exec_registersOk {i : Instr} (hinv : Inv s) (hop : opAt s = some i) (h : exec i s = .next t) :
    RegistersOk t := by
  have hr := hinv.registersOk
  cases i with
  | waitUs | waitMs | wait10ms | wait1s => exact waitEngine_registersOk hr h
  | cdrun => exact execCdrun_registersOk hr h
  | adcinit => exact execAdcinit_registersOk hr (fun hp => hinv.adcinitEnabled hp hop) h
  | sample => exact execSample_registersOk hr h
  | tinit =>
    cases h
    obtain ⟨-, hcmp, hpre, -⟩ := hr.tcuWidths
    exact { hr with tcuWidths := ⟨Nat.two_pow_pos _, hcmp, hpre, Nat.two_pow_pos _⟩ }
  | motinit =>
    cases h
    exact { hr with dutyEven := ⟨rfl, Nat.zero_le _, Direction.code_ne_three _⟩, brakeZero := fun _ => rfl }
  | apply =>
    cases h
    obtain ⟨hle, heven⟩ := dutyMap_duty_le_and_even s.params s.mag
    exact
      { hr with
        dutyEven := ⟨heven, hle, Direction.code_ne_three _⟩
        brakeZero := dutyMap_brakeZero s.params s.mag }
  | irqinit | irqOn => cases h; exact { hr with pendingNeedsEnable := fun h => by cases h }
  | irqOff => cases h; exact { hr with pendingNeedsEnable := fun _ => rfl }
  | disp d =>
    obtain ⟨-, rfl⟩ | ⟨-, rfl⟩ := execDisp_cases h
    · exact { hr with }
    · exact { hr with causeWithFault := by simp }
  | strel | stidle =>
    cases h
    unfold transition
    split <;> exact { hr with }
  | bst c tt => obtain ⟨-, rfl⟩ | ⟨-, rfl⟩ := execBst_cases h <;> exact { hr with }
  | motorOff | motorOn | dispinit | dispClr | gieOn | jmp tt => cases h; exact { hr with }

theorem NotHolding.of_exec {i : Instr} (hn : NotHolding s) (hb : blocking i = false) (h : exec i s = .next t) :
    NotHolding t := by
  rw [blocking_eq, Bool.or_eq_false_iff] at hb
  have hw := exec_writes h
  by_cases hi : i = .tinit
  · subst hi
    cases h
    exact ⟨hn.ph, rfl, rfl, hn.adsc⟩
  · constructor
    case ph => exact (not_imp_comm.mp hw.ph (by simp [blocking_eq, hb])).trans hn.ph
    case trun => exact (not_imp_comm.mp hw.trun (by simp [hb, hi])).trans hn.trun
    case tflag => exact (not_imp_comm.mp hw.tflag (by simp [hb, hi])).trans hn.tflag
    case adsc => exact (not_imp_comm.mp hw.adsc (by simp [hb])).trans hn.adsc

theorem tcuStart_runs (k : TimerCfg) (s : State) : TimerRuns (tcuStart k s) :=
  ⟨rfl, ⟨k, rfl, rfl⟩, prescale_pos s.params k, fun _ => thresh_pos s.params k⟩

theorem instr_ne_cdrun (k : WaitKind) : k.instr ≠ .cdrun := by cases k <;> decide

theorem kindCount_pos (k : WaitKind) : 1 ≤ (kindCount k).toNat := by cases k <;> decide

theorem waitInstr_injective {k k' : WaitKind} (h : k.instr = k'.instr) : k = k' := by
  revert h
  cases k <;> cases k' <;> decide

/-- An operation that turns the timer on, or on again, holds for TFLAG. -/
theorem tcuStart_timerHold {i : Instr} {k : TimerCfg} (hop : opAt s = some i) (hi : holdsForTimer i = true)
    (hp : s.ph = true) (hf : s.fault = false) (hc : s.adsc = false)
    (hwait : ∀ k : WaitKind, i = k.instr →
      s.wcfg = kindCfg k ∧ 1 ≤ s.wrem.toNat ∧ s.wrem.toNat ≤ (kindCount k).toNat)
    (hdigit : i = .cdrun → s.cdig.toNat ≤ 9) : TimerHold i (tcuStart k s) where
  op := hop
  holds := hi
  ph := hp
  fault := hf
  adsc := hc
  runs := tcuStart_runs k s
  wait := hwait
  digit := hdigit

theorem waitIssue_timerHold {k : WaitKind} (hn : NotHolding s) (hf : s.fault = false) (hop : opAt s = some k.instr) :
    TimerHold k.instr (waitIssue k s) := by
  refine tcuStart_timerHold (s := beginHold { s with wcfg := kindCfg k, wrem := kindCount k }) hop
    (holdsForTimer_instr k) rfl hf hn.adsc (fun k' hk => ?wait) (fun hk => absurd hk (instr_ne_cdrun k))
  case wait =>
    obtain rfl := waitInstr_injective hk
    exact ⟨rfl, kindCount_pos k, Nat.le_refl _⟩

theorem toNat_ne_zero_of_one_le {n : BitVec 4} (h : 1 ≤ n.toNat) : n ≠ 0 := by
  rintro rfl
  simp at h

/-- A sub-wait's end completes the WAIT, or owes one sub-wait less (40_timer_ops.md R105). -/
theorem TimerHold.waitSubEnd_cases {k : WaitKind} (ht : TimerHold k.instr s) :
    (s.wrem.toNat = 1 ∧ waitSubEnd s = endHold { tcuStop s with wrem := 0 }) ∨
    (2 ≤ s.wrem.toNat ∧ waitSubEnd s = tcuRestart (kindCfg k) { s with wrem := countDown s.wrem } ∧
      (waitSubEnd s).wrem.toNat = s.wrem.toNat - 1 ∧ TimerHold k.instr (waitSubEnd s)) := by
  obtain ⟨hcfg, hpos, hle⟩ := ht.wait k rfl
  by_cases hw : s.wrem = 1
  · exact .inl ⟨by rw [hw]; rfl, waitSubEnd_last hw⟩
  · have hne : s.wrem.toNat ≠ 1 := fun h => hw (BitVec.eq_of_toNat_eq h)
    have hpred : (countDown s.wrem).toNat = s.wrem.toNat - 1 := countDown_toNat (toNat_ne_zero_of_one_le hpos)
    have hnext : waitSubEnd s = tcuRestart (kindCfg k) { s with wrem := countDown s.wrem } := by
      rw [waitSubEnd_more hw, hcfg]
    rw [hnext]
    refine .inr ⟨by omega, rfl, hpred, ?_⟩
    refine tcuStart_timerHold (s := { s with wrem := countDown s.wrem, tflag := false }) ht.op ht.holds ht.ph ht.fault
      ht.adsc (fun k' hk => ?wait) (fun hk => absurd hk (instr_ne_cdrun k))
    case wait =>
      obtain rfl := waitInstr_injective hk
      exact ⟨hcfg, by show 1 ≤ (countDown s.wrem).toNat; omega, by show (countDown s.wrem).toNat ≤ _; omega⟩

theorem waitEngine_inPhase {k : WaitKind} (hinv : Inv s) (hf : s.fault = false) (hop : opAt s = some k.instr)
    (h : waitEngine k s = .next t) : InPhase t := by
  obtain ⟨hp, rfl⟩ | ⟨-, -, rfl⟩ | ⟨hp, -, rfl⟩ := waitEngine_cases h
  · exact .inr (.inl ⟨_, waitIssue_timerHold (hinv.notHolding hp) hf hop⟩)
  · exact hinv.inPhase
  · have ht := hinv.timerHold hp hop (holdsForTimer_instr k)
    obtain ⟨-, hend⟩ | ⟨-, -, -, hnext⟩ := ht.waitSubEnd_cases
    · rw [hend]
      exact .inl ⟨rfl, rfl, rfl, ht.adsc⟩
    · exact .inr (.inl ⟨k.instr, hnext⟩)

/-- The end of a second completes CDRUN, or goes on to the digit below (44_display_ops.md R184). -/
theorem TimerHold.countdownStep_cases (ht : TimerHold .cdrun s) :
    (s.cdig.toNat = 0 ∧ countdownStep s = endHold (blankDisplay (tcuStop s))) ∨
    (1 ≤ s.cdig.toNat ∧ countdownStep s = tcuRestart .s (showCountdown (s.cdig - 1) s) ∧
      (countdownStep s).cdig.toNat = s.cdig.toNat - 1 ∧ TimerHold .cdrun (countdownStep s)) := by
  by_cases hd : s.cdig = 0
  · exact .inl ⟨by rw [hd]; rfl, countdownStep_last hd⟩
  · have hne : s.cdig.toNat ≠ 0 := fun h => hd (BitVec.eq_of_toNat_eq h)
    have hpred := digit_pred_toNat hd
    have hle := ht.digit rfl
    rw [countdownStep_more hd]
    refine .inr ⟨by omega, rfl, hpred, ?_⟩
    exact tcuStart_timerHold (s := { showCountdown (s.cdig - 1) s with tflag := false }) ht.op ht.holds ht.ph ht.fault
      ht.adsc (fun k hk => absurd hk.symm (instr_ne_cdrun k)) (fun _ => by show (s.cdig - 1).toNat ≤ 9; omega)

theorem cdrunIssue_timerHold (hn : NotHolding s) (hf : s.fault = false) (hop : opAt s = some .cdrun) :
    TimerHold .cdrun (beginHold (tcuStart .s (showCountdown 9 s))) := by
  show TimerHold .cdrun (tcuStart .s (beginHold (showCountdown 9 s)))
  exact tcuStart_timerHold hop rfl rfl hf hn.adsc (fun k hk => absurd hk.symm (instr_ne_cdrun k))
    (fun _ => (by decide : (9 : BitVec 4).toNat ≤ 9))

theorem execCdrun_inPhase (hinv : Inv s) (hf : s.fault = false) (hop : opAt s = some .cdrun)
    (h : execCdrun s = .next t) : InPhase t := by
  obtain ⟨hp, rfl⟩ | ⟨-, -, rfl⟩ | ⟨hp, -, rfl⟩ := execCdrun_cases h
  · exact .inr (.inl ⟨.cdrun, cdrunIssue_timerHold (hinv.notHolding hp) hf hop⟩)
  · exact hinv.inPhase
  · have ht := hinv.timerHold hp hop rfl
    obtain ⟨-, hend⟩ | ⟨-, -, -, hnext⟩ := ht.countdownStep_cases
    · rw [hend]
      exact .inl ⟨rfl, rfl, rfl, ht.adsc⟩
    · exact .inr (.inl ⟨.cdrun, hnext⟩)

theorem execAdcinit_inPhase (hinv : Inv s) (hf : s.fault = false) (hop : opAt s = some .adcinit)
    (h : execAdcinit s = .next t) : InPhase t := by
  obtain ⟨hp, rfl⟩ | ⟨-, -, rfl⟩ | ⟨hp, hc, rfl⟩ := execAdcinit_cases h
  · have hn := hinv.notHolding hp
    exact .inr (.inr ⟨.adcinit, hop, rfl, rfl, hf, hn.trun, hn.tflag, fun _ => rfl⟩)
  · exact hinv.inPhase
  · have ha := hinv.adcHold hp hop rfl
    exact .inl ⟨rfl, ha.trun, ha.tflag, hc⟩

theorem execSample_inPhase (hinv : Inv s) (hf : s.fault = false) (hop : opAt s = some .sample)
    (h : execSample s = .next t) : InPhase t := by
  obtain ⟨hp, rfl⟩ | ⟨-, -, rfl⟩ | ⟨hp, hc, rfl⟩ := execSample_cases h
  · have hn := hinv.notHolding hp
    exact .inr (.inr ⟨.sample, hop, rfl, rfl, hf, hn.trun, hn.tflag, fun h => by cases h⟩)
  · exact hinv.inPhase
  · have ha := hinv.adcHold hp hop rfl
    exact .inl ⟨rfl, ha.trun, ha.tflag, hc⟩

/-- An operation's step goes from a phase to a phase. -/
theorem exec_inPhase {i : Instr} (hinv : Inv s) (hf : s.fault = false) (hop : opAt s = some i)
    (hb : s.ph = false ∨ blocking i = true) (h : exec i s = .next t) : InPhase t := by
  cases hi : blocking i with
  | false =>
    have hp : s.ph = false := hb.resolve_right (by simp [hi])
    exact .inl ((hinv.notHolding hp).of_exec hi h)
  | true =>
    rw [blocking_eq, Bool.or_eq_true] at hi
    obtain hi | hi := hi
    · obtain ⟨k, rfl⟩ | rfl := holdsForTimer_cases hi
      · rw [exec_wait] at h
        exact waitEngine_inPhase hinv hf hop h
      · exact execCdrun_inPhase hinv hf hop h
    · obtain rfl | rfl := holdsForAdc_cases hi
      · exact execAdcinit_inPhase hinv hf hop h
      · exact execSample_inPhase hinv hf hop h

theorem raiseSeqFault_inv {c : FaultCause} (hinv : Inv s) (hp : s.ph = false) (hc : c ≠ .none) :
    Inv (raiseSeqFault c s) := by
  obtain ⟨-, htrun, htflag, hadsc⟩ := hinv.notHolding hp
  exact NotHolding.inv ⟨hp, htrun, htflag, hadsc⟩ { hinv.registersOk with causeWithFault := by simp [hc] }

theorem seqStep_inv (hinv : Inv s) (h : seqStep s = .next t) : Inv t := by
  obtain ⟨-, rfl⟩ | ⟨-, -, rfl, -⟩ | ⟨-, hp, -, c, hc, rfl⟩ | ⟨hf, i, hop, hb, he⟩ := seqStep_cases h
  · exact hinv
  · exact hinv
  · exact raiseSeqFault_inv hinv hp hc
  · exact inv_iff.mpr ⟨exec_registersOk hinv hop he, exec_inPhase hinv hf hop hb he⟩

/-! ### Under every step -/

theorem agentStep_inv {m : Move} (hinv : Inv s) (h : agentStep m s = .next t) : Inv t := by
  by_cases hseq : m = .seq
  · subst hseq
    exact seqStep_inv hinv h
  · cases hrst : isRst m with
    | false =>
      exact inv_iff.mpr ⟨agentStep_registersOk hseq hrst h hinv, hinv.inPhase.of_agentStep hseq hrst h⟩
    | true =>
      obtain ⟨b, rfl⟩ := exists_rst_of_isRst hrst
      cases h
      exact rstStep_inv hinv b

/-- Settles O54: taking a move changes no register, and each agent's step, SEQ's operation by operation, keeps the
registers' bounds and goes from a phase to a phase. -/
theorem invariantKeptByEveryStep : Obligations.InvariantKeptByEveryStep := by
  intro s t hinv h
  have hmove := step_cases h
  rw [takeMove_state] at hmove
  exact agentStep_inv (hinv.withSchedule _ _) hmove

end Sys2Proof.Machine
end

section
/-! SUPPORT. The control program (45_control_program.md R195): its windows (R199, R200, 70_reset_and_hazards.md R254)
hold at reset and under every step, and PC moves along the edges of the listing. -/

namespace Sys2Proof.Machine

variable {s t : State}

/-! ### The listing -/

/-- The operations of the listing, by address (45_control_program.md R195). -/
def controlOps (k : WaitKind) : List Instr :=
  [.tinit, .adcinit, .motinit, .irqinit, .dispinit, .gieOn,
    .bst .pressed 0x0B, .bst .cooldownActive 0x0E, .sample, .apply, .jmp 0x06,
    .strel, k.instr, .jmp 0x08,
    .irqOff, .motorOff, .cdrun, .stidle, .motorOn, .irqOn, .jmp 0x08]

theorem controlOps_decode (k : WaitKind) : (controlRom k).map decodeWord = (controlOps k).map .ok := by
  cases k <;> decide

theorem controlOps_length (k : WaitKind) : (controlOps k).length = 21 := rfl

theorem ControlInv.opAt_eq (h : ControlInv s) : opAt s = (controlOps s.params.settleKind)[s.pc.toNat]? := by
  have hlt : s.pc.toNat < (controlOps s.params.settleKind).length := h.inside
  have hlt' : s.pc.toNat < (controlRom s.params.settleKind).length := h.inside
  have hdec := congrArg (·[s.pc.toNat]?) (controlOps_decode s.params.settleKind)
  simp only [List.getElem?_map, List.getElem?_eq_getElem hlt, List.getElem?_eq_getElem hlt', Option.map_some,
    Option.some.injEq] at hdec
  have hread : romRead s s.pc = some ((controlRom s.params.settleKind)[s.pc.toNat]'hlt') := by
    rw [romRead, h.listing, Memory.read, List.getElem?_eq_getElem]
  rw [opAt_of_read hread hdec, List.getElem?_eq_getElem hlt]

/-- The listing has no DISP, so no operation of it raises a fault. -/
theorem controlOps_ne_disp {k : WaitKind} {i : Instr} (h : i ∈ controlOps k) (d : BitVec 4) : i ≠ .disp d := by
  have hall : ∀ i ∈ controlOps k, ∀ d, i ≠ .disp d := by cases k <;> decide
  exact hall i h d

/-! ### The registers that the windows speak of -/

/-- What the windows read besides PC. -/
structure ControlRegs where
  ien : Bool
  men : Bool
  state : ControllerState
  adrdy : Bool
  gie : Bool

def controlRegs (s : State) : ControlRegs := ⟨s.ien, s.men, s.state, s.adrdy, s.gie⟩

/-- What an operation's completion does to those registers (43_control_ops.md R160 to R165, 42_motor_ops.md R141, R143,
R144, 41_adc_ops.md R123). -/
def controlEffect (i : Instr) (r : ControlRegs) : ControlRegs :=
  match i with
  | .irqinit | .irqOn => { r with ien := true }
  | .irqOff => { r with ien := false }
  | .gieOn => { r with gie := true }
  | .motinit | .motorOn => { r with men := true }
  | .motorOff => { r with men := false }
  | .adcinit => { r with adrdy := true }
  | .strel => { r with state := if r.state = .pressed then .released else r.state }
  | .stidle => { r with state := if r.state = .cooldownActive then .idle else r.state }
  | _ => r

@[simp] theorem controlEffect_wait (k : WaitKind) (r : ControlRegs) : controlEffect k.instr r = r := by cases k <;> rfl

/-- The operations that write none of the five registers. -/
theorem OpWrites.controlRegs {i : Instr} (hw : OpWrites i s t)
    (hi : i ∉ [Instr.irqinit, .irqOff, .irqOn, .gieOn, .motinit, .motorOn, .motorOff, .adcinit, .strel, .stidle]) :
    controlRegs t = controlRegs s := by
  simp only [List.mem_cons, List.not_mem_nil, or_false, not_or] at hi
  have hien : t.ien = s.ien := not_imp_comm.mp hw.ien (by tauto)
  have hmen : t.men = s.men := not_imp_comm.mp hw.men (by tauto)
  have hstate : t.state = s.state := not_imp_comm.mp hw.state (by tauto)
  have hadrdy : t.adrdy = s.adrdy := not_imp_comm.mp hw.adrdy (by tauto)
  have hgie : t.gie = s.gie := not_imp_comm.mp hw.gie (by tauto)
  simp [Machine.controlRegs, hien, hmen, hstate, hadrdy, hgie]

theorem transition_controlRegs (a b : ControllerState) (s : State) :
    controlRegs (transition a b s) = { controlRegs s with state := if s.state = a then b else s.state } := by
  obtain ⟨hs, h⟩ | ⟨hs, h⟩ := transition_cases a b s <;> rw [h] <;> simp [controlRegs, hs]

/-- An operation other than DISP waits at its word, or goes on to the next with its effect on the five registers, or
branches. -/
theorem exec_control_cases {i : Instr} (hdisp : ∀ d, i ≠ .disp d) (h : exec i s = .next t) :
    (t.pc = s.pc ∧ controlRegs t = controlRegs s) ∨
    (t.pc = s.pc + 1 ∧ controlRegs t = controlEffect i (controlRegs s) ∧ ∀ tt, i ≠ .jmp tt) ∨
    (controlRegs t = controlRegs s ∧ (i = .jmp t.pc ∨ i = .bst s.state t.pc)) := by
  have hw := exec_writes h
  cases i with
  | waitUs | waitMs | wait10ms | wait1s =>
    have hregs := hw.controlRegs (by decide)
    exact (waitEngine_pc h).imp (fun hpc => ⟨hpc.1, hregs⟩) fun hpc => .inl ⟨hpc, hregs, nofun⟩
  | cdrun =>
    have hregs := hw.controlRegs (by decide)
    exact (execCdrun_pc h).imp (fun hpc => ⟨hpc.1, hregs⟩) fun hpc => .inl ⟨hpc, hregs, nofun⟩
  | sample =>
    have hregs := hw.controlRegs (by decide)
    exact (execSample_pc h).imp (fun hpc => ⟨hpc.1, hregs⟩) fun hpc => .inl ⟨hpc, hregs, nofun⟩
  | adcinit =>
    obtain ⟨-, rfl⟩ | ⟨-, -, rfl⟩ | ⟨-, -, rfl⟩ := execAdcinit_cases h
    · exact .inl ⟨rfl, rfl⟩
    · exact .inl ⟨rfl, rfl⟩
    · exact .inr (.inl ⟨rfl, rfl, nofun⟩)
  | disp d => exact absurd rfl (hdisp d)
  | bst c tt =>
    obtain ⟨rfl, rfl⟩ | ⟨-, rfl⟩ := execBst_cases h
    · exact .inr (.inr ⟨rfl, .inr rfl⟩)
    · exact .inr (.inl ⟨rfl, rfl, nofun⟩)
  | jmp tt => cases h; exact .inr (.inr ⟨rfl, .inl rfl⟩)
  | strel | stidle =>
    cases h
    exact .inr (.inl ⟨by rw [advance_pc, transition_pc], transition_controlRegs _ _ s, nofun⟩)
  | tinit | motinit | apply | motorOff | motorOn | dispinit | dispClr | irqinit | irqOff | irqOn | gieOn =>
    cases h; exact .inr (.inl ⟨rfl, rfl, nofun⟩)

/-! ### The windows -/

/-- The windows of `ControlInv` at address `p` (45_control_program.md R199, R200, 70_reset_and_hazards.md R254). -/
structure Windows (p : Nat) (r : ControlRegs) : Prop where
  inside : p < 21
  irqOff : 0x0F ≤ p → p ≤ 0x13 → r.ien = false
  gateClosed : 0x10 ≤ p → p ≤ 0x12 → r.men = false
  gateOpen : 0x03 ≤ p → (p ≤ 0x0F ∨ 0x13 ≤ p) → r.men = true
  cooling : 0x0E ≤ p → p ≤ 0x11 → r.state = .cooldownActive
  cooled : 0x12 ≤ p → p ≤ 0x13 → r.state = .idle
  trusted : 0x02 ≤ p → r.adrdy = true
  global : 0x06 ≤ p → r.gie = true

theorem controlInv_iff :
    ControlInv s ↔ Inv s ∧ s.rom = controlRom s.params.settleKind ∧ s.fault = false ∧
      Windows s.pc.toNat (controlRegs s) := by
  constructor
  · intro h
    exact ⟨h.inv, h.listing, h.noFault, h.inside, h.irqOff, h.gateClosed, h.gateOpen, h.cooling, h.cooled, h.trusted,
      h.global⟩
  · rintro ⟨hinv, hlist, hf, h⟩
    exact ⟨hinv, hlist, hf, h.inside, h.irqOff, h.gateClosed, h.gateOpen, h.cooling, h.cooled, h.trusted, h.global⟩

variable {k : WaitKind} {p : Nat} {i : Instr} {r : ControlRegs}

theorem controlOps_lt (hop : (controlOps k)[p]? = some i) : p < 21 := (List.getElem?_eq_some_iff.mp hop).1

/-- The three jumps of the listing. -/
theorem controlOps_jmp {tt : Addr} (hop : (controlOps k)[p]? = some (.jmp tt)) :
    (p = 0x0A ∧ tt = 0x06) ∨ (p = 0x0D ∧ tt = 0x08) ∨ (p = 0x14 ∧ tt = 0x08) := by
  have hp := controlOps_lt hop
  cases k <;> interval_cases p <;> simp_all [controlOps, WaitKind.instr]

/-- The two polls of the listing. -/
theorem controlOps_bst {c : ControllerState} {tt : Addr} (hop : (controlOps k)[p]? = some (.bst c tt)) :
    (p = 0x06 ∧ c = .pressed ∧ tt = 0x0B) ∨ (p = 0x07 ∧ c = .cooldownActive ∧ tt = 0x0E) := by
  have hp := controlOps_lt hop
  cases k <;> interval_cases p <;> simp_all [controlOps, WaitKind.instr]

/-- Going on from `p` to the next word opens and closes the windows as the operation at `p` says: word by word of the
listing, its jumps and the word of WAIT.SETTLE apart. -/
theorem windows_next (hop : (controlOps k)[p]? = some i) (hw : Windows p r) (hj : ∀ tt, i ≠ .jmp tt) :
    Windows (p + 1) (controlEffect i r) := by
  by_cases hwait : p = 0x0C
  · subst hwait
    cases hop
    rw [controlEffect_wait]
    constructor <;> simp [hw.gateOpen, hw.trusted, hw.global]
  · have hp : p < 0x0C ∨ 0x0C < p ∧ p < 21 := by have := hw.inside; omega
    obtain hp | ⟨hp, hp'⟩ := hp <;> interval_cases p <;> cases hop <;> (try exact absurd rfl (hj _)) <;> constructor <;>
      simp [controlEffect, hw.irqOff, hw.gateClosed, hw.gateOpen, hw.cooling, hw.cooled, hw.trusted, hw.global]

/-- The windows at a jump's target are those at the jump. -/
theorem windows_jmp {tt : Addr} (hop : (controlOps k)[p]? = some (.jmp tt)) (hw : Windows p r) :
    Windows tt.toNat r := by
  obtain ⟨rfl, rfl⟩ | ⟨rfl, rfl⟩ | ⟨rfl, rfl⟩ := controlOps_jmp hop <;> constructor <;>
    simp [hw.gateOpen, hw.trusted, hw.global]

/-- A poll branches into a handling segment in the state that it polls for. -/
theorem windows_bst {tt : Addr} (hop : (controlOps k)[p]? = some (.bst r.state tt)) (hw : Windows p r) :
    Windows tt.toNat r := by
  obtain ⟨rfl, hs, rfl⟩ | ⟨rfl, hs, rfl⟩ := controlOps_bst hop <;> constructor <;>
    simp [hs, hw.gateOpen, hw.trusted, hw.global]

/-- The handler moves STATE only where the interrupt is on, outside the cooldown's window after STIDLE, and leaves
CooldownActive. -/
theorem windows_handler (hw : Windows p r) (hien : r.ien = true) :
    Windows p { r with state := handlerNext r.state } :=
  { hw with
    cooling := fun h1 h2 => by rw [hw.cooling h1 h2]; rfl
    cooled := fun h1 h2 => by
      have hoff := hw.irqOff (by omega) (by omega)
      rw [hien] at hoff
      cases hoff }

theorem windows_reset (p : Params) (rom : List Word) (b : Bool) (u : Unspecified) :
    Windows 0 (controlRegs (State.afterReset p rom b u)) := by constructor <;> simp

/-! ### At reset and under every step -/

/-- Settles O55: every window is closed at address 0. -/
theorem controlProgramInvariantAtReset : Obligations.ControlProgramInvariantAtReset :=
  controlInv_iff.mpr ⟨invariantAtReset, rfl, rfl, windows_reset _ _ _ _⟩

theorem ControlInv.windows (h : ControlInv s) : Windows s.pc.toNat (controlRegs s) := (controlInv_iff.mp h).2.2.2

theorem ControlInv.pc_succ_toNat (h : ControlInv s) : (s.pc + 1).toNat = s.pc.toNat + 1 := by
  have := h.inside
  bv_omega

/-- Everything SEQ's step can do in the control program. -/
theorem ControlInv.seqStep_cases (hc : ControlInv s) (h : seqStep s = .next t) :
    t.fault = false ∧
    ((t.pc = s.pc ∧ controlRegs t = controlRegs s) ∨
    ∃ i, (controlOps s.params.settleKind)[s.pc.toNat]? = some i ∧
      ((t.pc = s.pc + 1 ∧ controlRegs t = controlEffect i (controlRegs s) ∧ ∀ tt, i ≠ .jmp tt) ∨
      (controlRegs t = controlRegs s ∧ (i = .jmp t.pc ∨ i = .bst s.state t.pc)))) := by
  have hf := hc.noFault
  obtain ⟨-, rfl⟩ | ⟨-, -, rfl, -⟩ | ⟨-, -, hop, -⟩ | ⟨-, i, hop, -, he⟩ := Machine.seqStep_cases h
  · exact ⟨hf, .inl ⟨rfl, rfl⟩⟩
  · exact ⟨hf, .inl ⟨rfl, rfl⟩⟩
  · rw [hc.opAt_eq, List.getElem?_eq_none_iff, controlOps_length] at hop
    have := hc.inside
    omega
  · rw [hc.opAt_eq] at hop
    have hdisp := controlOps_ne_disp (List.mem_of_getElem? hop)
    refine ⟨?_, (exec_control_cases hdisp he).imp_right fun hgo => ⟨i, hop, hgo⟩⟩
    obtain hk | ⟨d, hd, -⟩ | ⟨-, -, rfl⟩ | ⟨-, -, rfl⟩ := exec_faultAndState_cases he
    · exact hk.fault.trans hf
    · exact absurd hd (hdisp d)
    · exact hf
    · exact hf

theorem ControlInv.seqStep_windows (hc : ControlInv s) (h : seqStep s = .next t) :
    Windows t.pc.toNat (controlRegs t) := by
  have hw := hc.windows
  obtain ⟨-, ⟨hpc, hregs⟩ | ⟨i, hop, ⟨hpc, hregs, hj⟩ | ⟨hregs, rfl | rfl⟩⟩⟩ := hc.seqStep_cases h
  · rw [hpc, hregs]
    exact hw
  · rw [hpc, hregs, hc.pc_succ_toNat]
    exact windows_next hop hw hj
  · rw [hregs]
    exact windows_jmp hop hw
  · rw [hregs]
    exact windows_bst hop hw

theorem ControlInv.agentStep_windows {m : Move} (hc : ControlInv s) (hseq : m ≠ .seq) (hrst : isRst m = false)
    (h : agentStep m s = .next t) : Windows t.pc.toNat (controlRegs t) := by
  have hk := agentStep_seqRegisters hseq hrst h
  have hregs : controlRegs t = { controlRegs s with state := t.state } := by
    simp [controlRegs, hk.ien, hk.men, hk.adrdy, hk.gie]
  have hw := hc.windows
  rw [hk.pc, hregs]
  by_cases hs : t.state = s.state
  · rw [hs]
    exact hw
  · obtain rfl : m = .isr := (agentStep_writes hseq hrst h).state hs
    cases h
    obtain ⟨hen, hserve⟩ | ⟨-, hsame⟩ := isrStep_cases s
    · obtain ⟨-, hien, -⟩ := (handlerEnabled_iff s).mp hen
      rw [hserve]
      exact windows_handler hw hien
    · rw [hsame] at hs
      exact absurd rfl hs

theorem ControlInv.of_agentStep {m : Move} (hc : ControlInv s) (h : agentStep m s = .next t) : ControlInv t := by
  obtain ⟨hrom, hparams⟩ := agentStep_rom_params h
  rw [controlInv_iff]
  refine ⟨agentStep_inv hc.inv h, by rw [hrom, hparams, hc.listing], ?_⟩
  by_cases hseq : m = .seq
  · subst hseq
    exact ⟨(hc.seqStep_cases h).1, hc.seqStep_windows h⟩
  · cases hrst : isRst m with
    | false =>
      exact ⟨(agentStep_seqRegisters hseq hrst h).fault.trans hc.noFault, hc.agentStep_windows hseq hrst h⟩
    | true =>
      obtain ⟨b, rfl⟩ := exists_rst_of_isRst hrst
      cases h
      exact ⟨rfl, windows_reset s.params s.rom b (Config.freeUnspecified s.draws)⟩

theorem ControlInv.withSchedule (h : ControlInv s) (ms : List Move) (n : Nat) :
    ControlInv { s with moves := ms, draws := n } :=
  { h with inv := h.inv.withSchedule ms n }

/-- Settles O56: SEQ goes through the windows as the listing says, the handler respects them, the other agents touch
none of their registers, and RST goes to address 0. -/
theorem controlProgramInvariantKept : Obligations.ControlProgramInvariantKept := by
  intro s t hc h
  have hmove := step_cases h
  rw [takeMove_state] at hmove
  exact (hc.withSchedule _ _).of_agentStep hmove

/-! ### The edges of the listing -/

/-- The edges between addresses that the listing allows (45_control_program.md R195). -/
def controlEdges : List (Nat × Nat) :=
  [(0x00, 0x01), (0x01, 0x02), (0x02, 0x03), (0x03, 0x04), (0x04, 0x05), (0x05, 0x06), (0x06, 0x07), (0x06, 0x0B),
    (0x07, 0x08), (0x07, 0x0E), (0x08, 0x09), (0x09, 0x0A), (0x0A, 0x06), (0x0B, 0x0C), (0x0C, 0x0D), (0x0D, 0x08),
    (0x0E, 0x0F), (0x0F, 0x10), (0x10, 0x11), (0x11, 0x12), (0x12, 0x13), (0x13, 0x14), (0x14, 0x08)]

theorem controlEdges_next (hop : (controlOps k)[p]? = some i) (hj : ∀ tt, i ≠ .jmp tt) :
    (p, p + 1) ∈ controlEdges := by
  have hp := controlOps_lt hop
  interval_cases p <;> (try (cases hop; exact absurd rfl (hj _))) <;> decide

theorem controlEdges_jmp {tt : Addr} (hop : (controlOps k)[p]? = some (.jmp tt)) : (p, tt.toNat) ∈ controlEdges := by
  obtain ⟨rfl, rfl⟩ | ⟨rfl, rfl⟩ | ⟨rfl, rfl⟩ := controlOps_jmp hop <;> decide

theorem controlEdges_bst {c : ControllerState} {tt : Addr} (hop : (controlOps k)[p]? = some (.bst c tt)) :
    (p, tt.toNat) ∈ controlEdges := by
  obtain ⟨rfl, -, rfl⟩ | ⟨rfl, -, rfl⟩ := controlOps_bst hop <;> decide

/-- From the loop on, no edge leads back to the boot segment. -/
theorem controlEdges_stay_in_loop : ∀ e ∈ controlEdges, 0x06 ≤ e.1 → 0x06 ≤ e.2 := by decide

theorem ControlInv.edge {m : Move} (hc : ControlInv s) (hrst : isRst m = false) (h : agentStep m s = .next t) :
    t.pc = s.pc ∨ (s.pc.toNat, t.pc.toNat) ∈ controlEdges := by
  by_cases hseq : m = .seq
  · subst hseq
    obtain ⟨-, ⟨hpc, -⟩ | ⟨i, hop, ⟨hpc, -, hj⟩ | ⟨-, rfl | rfl⟩⟩⟩ := hc.seqStep_cases h
    · exact .inl hpc
    · rw [hpc, hc.pc_succ_toNat]
      exact .inr (controlEdges_next hop hj)
    · exact .inr (controlEdges_jmp hop)
    · exact .inr (controlEdges_bst hop)
  · exact .inl (agentStep_seqRegisters hseq hrst h).pc

/-- A step to neither PC nor the next word is a branch; to the start of a handling segment, a poll's, in its state. -/
theorem ControlInv.state_of_poll_taken {m : Move} (hc : ControlInv s) (hrst : isRst m = false)
    (h : agentStep m s = .next t) (hne : t.pc ≠ s.pc) (hne' : t.pc ≠ s.pc + 1) :
    (t.pc = 0x0B → s.state = .pressed) ∧ (t.pc = 0x0E → s.state = .cooldownActive) := by
  by_cases hseq : m = .seq
  · subst hseq
    obtain ⟨-, ⟨hpc, -⟩ | ⟨i, hop, ⟨hpc, -⟩ | ⟨-, rfl | rfl⟩⟩⟩ := hc.seqStep_cases h
    · exact absurd hpc hne
    · exact absurd hpc hne'
    · obtain ⟨-, ht⟩ | ⟨-, ht⟩ | ⟨-, ht⟩ := controlOps_jmp hop <;> simp [ht]
    · obtain ⟨-, hs, ht⟩ | ⟨-, hs, ht⟩ := controlOps_bst hop <;> simp [hs, ht]
  · exact absurd (agentStep_seqRegisters hseq hrst h).pc hne

/-- Settles O57: SEQ's step goes on or branches as the operation at PC says; the two polls branch in their state only.
-/
theorem controlProgramFlow : Obligations.ControlProgramFlow := by
  intro m s t hc hrst h
  have hedge := hc.edge hrst h
  refine ⟨hedge, fun hpc ht => ?pressed, fun hpc ht => ?cooldown, fun hloop => ?loop⟩
  case pressed => exact (hc.state_of_poll_taken hrst h (by rw [hpc, ht]; decide) (by rw [hpc, ht]; decide)).1 ht
  case cooldown => exact (hc.state_of_poll_taken hrst h (by rw [hpc, ht]; decide) (by rw [hpc, ht]; decide)).2 ht
  case loop =>
    obtain hpc | hmem := hedge
    · rwa [hpc]
    · exact controlEdges_stay_in_loop _ hmem hloop

end Sys2Proof.Machine
end

section
/-! SUPPORT. Proofs about the motor stage beyond single operations: the mapper as an 11-bit adder and its Brake band
(42_motor_ops.md R135, R136, R140), the PWM generator (R146), SAMPLE followed by APPLY (95_test_vectors.md section 1).
-/

namespace Sys2Proof.Machine

variable {s t : State}

/-! ### The mapper as an 11-bit adder (R136) -/

/-- In 11 bits no sum of the mapper overflows. -/
theorem dutyMap11_cases {d : BitVec 11} (hd : d.toNat ≤ 1023) (m : BitVec 10) :
    (m.toNat + d.toNat < 511 ∧ (dutyMap11 d m).1 = .reverse ∧ (dutyMap11 d m).2.toNat = (511 - m.toNat) * 2) ∨
    (511 + d.toNat < m.toNat ∧ (dutyMap11 d m).1 = .forward ∧ (dutyMap11 d m).2.toNat = (m.toNat - 512) * 2) ∨
    (511 ≤ m.toNat + d.toNat ∧ m.toNat ≤ 511 + d.toNat ∧ dutyMap11 d m = (.brake, 0)) := by
  have hm := m.isLt
  have hwide : (m.setWidth 11).toNat = m.toNat := BitVec.toNat_setWidth_of_le (by decide)
  have hone : (1 : BitVec 11).toNat = 1 := rfl
  unfold dutyMap11 center
  dsimp only
  split_ifs with h1 h2
  · left
    rw [BitVec.lt_def, BitVec.toNat_add, hwide, BitVec.toNat_ofNat] at h1
    refine ⟨by omega, rfl, ?_⟩
    simp only [BitVec.toNat_setWidth, BitVec.toNat_shiftLeft, BitVec.toNat_sub, Nat.shiftLeft_eq, BitVec.toNat_ofNat]
    omega
  · right; left
    rw [gt_iff_lt, BitVec.lt_def, BitVec.toNat_add, hwide, BitVec.toNat_ofNat] at h2
    refine ⟨by omega, rfl, ?_⟩
    simp only [BitVec.toNat_setWidth, BitVec.toNat_shiftLeft, BitVec.toNat_sub, Nat.shiftLeft_eq, BitVec.toNat_ofNat,
      hone]
    omega
  · right; right
    rw [BitVec.lt_def, BitVec.toNat_add, hwide, BitVec.toNat_ofNat] at h1
    rw [gt_iff_lt, BitVec.lt_def, BitVec.toNat_add, hwide, BitVec.toNat_ofNat] at h2
    exact ⟨by omega, by omega, rfl⟩

/-- Settles O32: both mappers have the same three cases with the same duties. -/
theorem elevenBitMapperIsTheMapper : Obligations.ElevenBitMapperIsTheMapper := by
  intro p m
  have hle := deadzone_le p
  have hd : (BitVec.ofNat 11 p.deadzone).toNat = p.deadzone := by rw [BitVec.toNat_ofNat]; omega
  have hcases := dutyMap11_cases (d := BitVec.ofNat 11 p.deadzone) (by omega) m
  rw [hd] at hcases
  obtain ⟨hlt, hdir, hduty⟩ | ⟨hlt, hdir, hduty⟩ | ⟨hge, hle, hmap⟩ := hcases
  · obtain ⟨hdir', hduty'⟩ := dutyMap_reverse hlt
    exact Prod.ext (hdir.trans hdir'.symm) (BitVec.eq_of_toNat_eq (hduty.trans hduty'.symm))
  · obtain ⟨hdir', hduty'⟩ := dutyMap_forward hlt
    exact Prod.ext (hdir.trans hdir'.symm) (BitVec.eq_of_toNat_eq (hduty.trans hduty'.symm))
  · rw [hmap, dutyMap_brake hge hle]

/-! ### The Brake band (R140) -/

theorem dutyMap_brake_iff (p : Params) (m : BitVec 10) :
    (dutyMap p m).1 = .brake ↔ 511 ≤ m.toNat + p.deadzone ∧ m.toNat ≤ 511 + p.deadzone := by
  refine ⟨fun h => ?_, fun ⟨hge, hle⟩ => by rw [dutyMap_brake hge hle]⟩
  obtain ⟨-, hdir, -⟩ | ⟨-, hdir, -⟩ | ⟨hge, hle, -⟩ := dutyMap_cases p m
  · rw [hdir] at h; cases h
  · rw [hdir] at h; cases h
  · exact ⟨hge, hle⟩

/-- Settles O33: which magnitudes are in the band, and the duties on its two sides, are arithmetic on the three cases.
-/
theorem deadzoneBandIsBrake : Obligations.DeadzoneBandIsBrake := by
  intro p m
  have hm := m.isLt
  refine ⟨dutyMap_brake_iff p m, dutyMap_brakeZero p m, fun hd => ?all, fun hd hne => ?allButOne, fun hd => ?escape,
    fun heq => ?below, fun heq => ?above⟩
  case all => exact (dutyMap_brake_iff p m).mpr ⟨by omega, by omega⟩
  case allButOne => exact (dutyMap_brake_iff p m).mpr ⟨by omega, by omega⟩
  case escape =>
    obtain ⟨hdir, hduty⟩ := dutyMap_forward (p := p) (m := 1023) (by simp [hd])
    exact Prod.ext hdir (BitVec.eq_of_toNat_eq hduty)
  case below =>
    obtain ⟨hdir, hduty⟩ := dutyMap_reverse (p := p) (m := m) (by omega)
    exact ⟨hdir, by omega⟩
  case above =>
    obtain ⟨hdir, hduty⟩ := dutyMap_forward (p := p) (m := m) (by omega)
    exact ⟨hdir, by omega⟩

/-! ### The PWM generator (R146) -/

theorem countP_range_lt (n d : Nat) : (List.range n).countP (fun k => decide (k < d)) = min n d := by
  induction n with
  | zero => simp
  | succ n ih =>
    rw [List.range_succ, List.countP_append, ih]
    by_cases h : n < d <;> simp [h] <;> omega

theorem pwmLine_of_count (s : State) {n : Nat} (hn : n < 1024) :
    pwmLine { s with pcnt := BitVec.ofNat 10 n } = decide (n < (dutyOut s).toNat) := by
  have hcnt : (BitVec.ofNat 10 n).toNat = n := by rw [BitVec.toNat_ofNat]; omega
  show decide ((BitVec.ofNat 10 n).toNat < (dutyOut s).toNat) = _
  rw [hcnt]

/-- Settles O36: the line at count `n` is `n < duty_out`, and of the first 1024 counts `duty_out` are below it. -/
theorem pwmGenerator : Obligations.PwmGenerator := by
  intro s
  refine ⟨rfl, by simp [pwmLine], ?_⟩
  have hduty := (dutyOut s).isLt
  have hcongr : (List.range 1024).countP (fun n => pwmLine { s with pcnt := BitVec.ofNat 10 n }) =
      (List.range 1024).countP (fun n => decide (n < (dutyOut s).toNat)) :=
    List.countP_congr fun n hn => by rw [pwmLine_of_count s (List.mem_range.mp hn)]
  rw [hcongr, countP_range_lt]
  omega

/-! ### The PWM counter reaches only the line (R146) -/

/-- `s` with another PWM count. -/
def withPcnt (x : BitVec 10) (s : State) : State := { s with pcnt := x }

theorem waitSubEnd_withPcnt (x : BitVec 10) (s : State) : waitSubEnd (withPcnt x s) = withPcnt x (waitSubEnd s) := by
  by_cases h : s.wrem = 1
  · rw [waitSubEnd_last h, waitSubEnd_last (show (withPcnt x s).wrem = 1 from h)]; rfl
  · rw [waitSubEnd_more h, waitSubEnd_more (show (withPcnt x s).wrem ≠ 1 from h)]; rfl

theorem countdownStep_withPcnt (x : BitVec 10) (s : State) :
    countdownStep (withPcnt x s) = withPcnt x (countdownStep s) := by
  by_cases h : s.cdig = 0
  · rw [countdownStep_last h, countdownStep_last (show (withPcnt x s).cdig = 0 from h)]; rfl
  · rw [countdownStep_more h, countdownStep_more (show (withPcnt x s).cdig ≠ 0 from h)]; rfl

theorem waitEngine_withPcnt {k : WaitKind} (x : BitVec 10) (h : waitEngine k s = .next t) :
    waitEngine k (withPcnt x s) = .next (withPcnt x t) := by
  obtain ⟨hp, rfl⟩ | ⟨hp, hf, rfl⟩ | ⟨hp, hf, rfl⟩ := waitEngine_cases h
  · exact waitEngine_issue k hp
  · exact waitEngine_hold k hp hf
  · rw [waitEngine_subEnd (s := withPcnt x s) k hp hf, waitSubEnd_withPcnt]

theorem execAdcinit_withPcnt (x : BitVec 10) (h : execAdcinit s = .next t) :
    execAdcinit (withPcnt x s) = .next (withPcnt x t) := by
  obtain ⟨hp, rfl⟩ | ⟨hp, hc, rfl⟩ | ⟨hp, hc, rfl⟩ := execAdcinit_cases h
  · exact execAdcinit_issue hp
  · exact execAdcinit_hold hp hc
  · exact execAdcinit_complete (s := withPcnt x s) hp hc

theorem execSample_withPcnt (x : BitVec 10) (h : execSample s = .next t) :
    execSample (withPcnt x s) = .next (withPcnt x t) := by
  obtain ⟨hp, rfl⟩ | ⟨hp, hc, rfl⟩ | ⟨hp, hc, rfl⟩ := execSample_cases h
  · exact execSample_issue hp
  · exact execSample_hold hp hc
  · exact execSample_complete (s := withPcnt x s) hp hc

theorem execCdrun_withPcnt (x : BitVec 10) (h : execCdrun s = .next t) :
    execCdrun (withPcnt x s) = .next (withPcnt x t) := by
  obtain ⟨hp, rfl⟩ | ⟨hp, hf, rfl⟩ | ⟨hp, hf, rfl⟩ := execCdrun_cases h
  · exact execCdrun_issue hp
  · exact execCdrun_hold hp hf
  · rw [execCdrun_flag (s := withPcnt x s) hp hf, countdownStep_withPcnt]

theorem transition_withPcnt (x : BitVec 10) (a b : ControllerState) (s : State) :
    transition a b (withPcnt x s) = withPcnt x (transition a b s) := by
  by_cases h : s.state = a
  · rw [transition_of_eq h, transition_of_eq (show (withPcnt x s).state = a from h)]; rfl
  · rw [transition_of_ne h, transition_of_ne (show (withPcnt x s).state ≠ a from h)]

/-- No operation reads or writes PCNT. -/
theorem exec_withPcnt {i : Instr} (x : BitVec 10) (h : exec i s = .next t) :
    exec i (withPcnt x s) = .next (withPcnt x t) := by
  cases i with
  | waitUs | waitMs | wait10ms | wait1s => exact waitEngine_withPcnt x h
  | adcinit => exact execAdcinit_withPcnt x h
  | sample => exact execSample_withPcnt x h
  | cdrun => exact execCdrun_withPcnt x h
  | disp d =>
    obtain ⟨hd, rfl⟩ | ⟨hd, rfl⟩ := execDisp_cases h
    · exact if_pos hd
    · exact if_neg (by simp [hd])
  | strel | stidle =>
    cases h
    exact congrArg (fun u => Host.Outcome.next (advance u)) (transition_withPcnt x _ _ s)
  | bst c tt =>
    obtain ⟨hc, rfl⟩ | ⟨hc, rfl⟩ := execBst_cases h
    · exact exec_bst_taken (s := withPcnt x s) hc tt
    · exact exec_bst_notTaken (s := withPcnt x s) hc tt
  | tinit | motinit | apply | motorOff | motorOn | dispinit | dispClr | irqinit | irqOff | irqOn | gieOn | jmp tt =>
    cases h; rfl

theorem seqStep_withPcnt (x : BitVec 10) (h : seqStep s = .next t) : seqStep (withPcnt x s) = .next (withPcnt x t) := by
  have hfetch : fetch (withPcnt x s) = fetch s := rfl
  unfold seqStep at h ⊢
  rw [hfetch]
  split at h
  · rename_i hf
    cases h
    exact if_pos hf
  · rename_i hf
    rw [if_neg (show ¬ (withPcnt x s).fault = true from hf)]
    cases hi : fetch s with
    | error c =>
      rw [hi] at h
      cases hp : s.ph with
      | false => simp only [hp] at h; cases h; simp [withPcnt, hp, raiseSeqFault]
      | true => simp only [hp] at h; cases h; simp [withPcnt, hp]
    | ok i =>
      rw [hi] at h
      dsimp only at h ⊢
      split at h
      · rename_i hb
        cases h
        exact if_pos hb
      · rename_i hb
        exact (if_neg hb).trans (exec_withPcnt x h)

theorem clkStep_withPcnt (x : BitVec 10) (s : State) : clkStep (withPcnt x s) = withPcnt x (clkStep s) := by
  cases hr : s.trun with
  | false => simp [clkStep, withPcnt, hr]
  | true => by_cases hd : s.tdiv + 1 = s.tpre <;> simp [clkStep, withPcnt, hr, hd]

theorem adcStep_withPcnt (x v : BitVec 10) (s : State) : adcStep v (withPcnt x s) = withPcnt x (adcStep v s) := by
  cases hc : s.adsc with
  | false => simp [adcStep, withPcnt, hc]
  | true => cases hr : s.adrdy <;> simp [adcStep, withPcnt, deliver, hc, hr]

theorem isrStep_withPcnt (x : BitVec 10) (s : State) : isrStep (withPcnt x s) = withPcnt x (isrStep s) := by
  cases h : handlerEnabled s with
  | false => rw [isrStep_of_disabled h, isrStep_of_disabled (show handlerEnabled (withPcnt x s) = false from h)]
  | true => rw [isrStep_of_enabled h, isrStep_of_enabled (show handlerEnabled (withPcnt x s) = true from h)]; rfl

/-- Settles O37: no agent but PWM and RST reads or writes PCNT; PWM's writes nothing else, and RST's reads no
register. -/
theorem pwmCounterReachesOnlyThePwmLine : Obligations.PwmCounterReachesOnlyThePwmLine := by
  refine fun m s t x h => ⟨?_, rfl⟩
  cases m with
  | seq => exact ⟨withPcnt x t, seqStep_withPcnt x h, rfl⟩
  | clk => cases h; exact ⟨withPcnt x (clkStep s), congrArg _ (clkStep_withPcnt x s), rfl⟩
  | adc v => cases h; exact ⟨withPcnt x (adcStep v s), congrArg _ (adcStep_withPcnt x v s), rfl⟩
  | isr => cases h; exact ⟨withPcnt x (isrStep s), congrArg _ (isrStep_withPcnt x s), rfl⟩
  | btn b | pwm | rst b => cases h; exact ⟨_, rfl, rfl⟩

/-! ### SAMPLE followed by APPLY -/

theorem agentNext_seq_exec {i : Instr} (hf : s.fault = false) (hop : opAt s = some i)
    (hb : s.ph = false ∨ blocking i = true) (he : exec i s = .next t) : agentNext .seq s = t :=
  agentNext_of ((seqStep_exec hf hop hb).trans he)

/-- A whole trusted SAMPLE: issue, completion with code `v`, end. -/
theorem runMoves_sample {v : BitVec 10} (hf : s.fault = false) (hp : s.ph = false) (hr : s.adrdy = true)
    (hop : opAt s = some .sample) :
    runMoves [.seq, .adc v, .seq] s = { s with adsc := false, adres := adresOfCode v, mag := v, pc := s.pc + 1 } := by
  have hissue : agentNext .seq s = startConversion s := agentNext_seq_exec hf hop (.inl hp) (execSample_issue hp)
  have hdeliver : agentNext (.adc v) (startConversion s) = deliver v (startConversion s) :=
    agentNext_of (by rw [agentStep_adc, adcStep_trusted (s := startConversion s) v rfl hr])
  have hend : agentNext .seq (deliver v (startConversion s)) =
      endHold { deliver v (startConversion s) with mag := adresResult (adresOfCode v) } :=
    agentNext_seq_exec hf hop (.inr rfl) (execSample_complete rfl rfl)
  rw [runMoves_cons, hissue, runMoves_cons, hdeliver, runMoves_cons, hend, adresResult_adresOfCode, runMoves_nil]
  rw [State.ext_iff]
  simp [hp]

theorem runMoves_sample_apply {v : BitVec 10} (hf : s.fault = false) (hp : s.ph = false) (hr : s.adrdy = true)
    (hop : opAt s = some .sample) (hop' : opAt (advance s) = some .apply) :
    runMoves [.seq, .adc v, .seq, .seq] s =
      { s with
        adsc := false, adres := adresOfCode v, mag := v, pc := s.pc + 2
        cdir := (dutyMap s.params v).1
        cduty := (dutyMap s.params v).2 } := by
  have happly : agentNext .seq { s with adsc := false, adres := adresOfCode v, mag := v, pc := s.pc + 1 } = _ :=
    agentNext_seq_exec (i := .apply) hf hop' (.inl hp) (exec_apply _)
  have hpc : s.pc + 1 + 1 = s.pc + 2 := by rw [BitVec.add_assoc]; rfl
  rw [show [Move.seq, .adc v, .seq, .seq] = [.seq, .adc v, .seq] ++ [.seq] from rfl, runMoves_append,
    runMoves_sample hf hp hr hop, runMoves_cons, happly, runMoves_nil, hpc]

/-- The ports of an open gate with the mapper's command, DEADZONE = 0 (R137, R145). -/
theorem motorPorts_of_dutyMap {p : Params} {v : BitVec 10} (hd : p.deadzone = 0) (hmen : s.men = true)
    (hdir : s.cdir = (dutyMap p v).1) (hduty : s.cduty = (dutyMap p v).2) :
    in1 s = decide (511 < v.toNat) ∧ in2 s = decide (v.toNat < 511) ∧
      (dutyOut s).toNat =
        (if v.toNat < 511 then (511 - v.toNat) * 2 else if 511 < v.toNat then (v.toNat - 512) * 2 else 0) := by
  have hin1 : in1 s = decide (s.cdir = .forward) := by rw [Bool.eq_iff_iff, in1_iff]; simp [hmen]
  have hin2 : in2 s = decide (s.cdir = .reverse) := by rw [Bool.eq_iff_iff, in2_iff]; simp [hmen]
  rw [hin1, hin2, dutyOut_of_open hmen, hdir, hduty]
  obtain ⟨hlt, hdir', hduty'⟩ | ⟨hlt, hdir', hduty'⟩ | ⟨hge, hle, hmap⟩ := dutyMap_cases p v
  · have h1 : v.toNat < 511 := by omega
    simp [hdir', hduty', h1]
    omega
  · have h1 : 511 < v.toNat := by omega
    simp [hdir', hduty', h1]
    omega
  · have h1 : v.toNat = 511 := by omega
    simp [hmap, h1]

/-- Settles O27: SAMPLE puts the code into MAG, and APPLY the mapper's answer on the open gate. -/
theorem sampleAndApplyDriveTheMotor : Obligations.SampleAndApplyDriveTheMotor := by
  intro s v hf hp hmen hr hd hread hread'
  have hop : opAt s = some .sample := opAt_of_read hread (by decide)
  have hop' : opAt (advance s) = some .apply := opAt_of_read (s := advance s) hread' (by decide)
  intro t
  have ht : t = _ := runMoves_sample_apply hf hp hr hop hop'
  rw [ht]
  exact ⟨rfl, rfl, motorPorts_of_dutyMap hd hmen rfl rfl⟩

end Sys2Proof.Machine
end

section
/-! SUPPORT. Proofs about runs of the agents: STATE and IPEND between two steps of SEQ (43_control_ops.md section 4,
70_reset_and_hazards.md section 3), the TCU by its ticks (40_timer_ops.md section 3), holds that last. -/

namespace Sys2Proof.Machine

variable {s t : State}

/-! ### STATE and IPEND between two steps of SEQ -/

theorem handlerNext_handlerNext (c : ControllerState) : handlerNext (handlerNext c) = handlerNext c := by
  cases c <;> rfl

/-- Settles O48: the handler's move, made once or more often, is the only one. -/
theorem onlyTheHandlerMovesStateBetweenReads : Obligations.OnlyTheHandlerMovesStateBetweenReads := by
  intro s ms hms
  have hmoved : (runMoves ms s).state = s.state ∨ (runMoves ms s).state = handlerNext s.state := by
    refine runMoves_induction (P := fun t => t.state = s.state ∨ t.state = handlerNext s.state) _
      (fun m t hm ht => ?_) ms s hms (.inl rfl)
    obtain hkeep | ⟨-, hnext⟩ := agentStep_state_cases hm.1 hm.2 (agentStep_eq_agentNext m t)
    · rwa [hkeep]
    · obtain ht | ht := ht <;> rw [hnext, ht]
      · exact .inr rfl
      · exact .inr (handlerNext_handlerNext s.state)
  obtain h | h := hmoved <;> rw [h] <;> cases s.state <;> decide

/-- With IEN = 0 and IPEND = 0 the handler does not run and nothing becomes pending. -/
theorem agentStep_disabled {m : Move} (hseq : m ≠ .seq) (hrst : isRst m = false) (h : agentStep m s = .next t)
    (hien : s.ien = false) (hip : s.ipend = false) : t.ien = false ∧ t.ipend = false ∧ t.state = s.state := by
  refine ⟨(agentStep_seqRegisters hseq hrst h).ien.trans hien, agentStep_ipend_of_disabled hseq hrst h hien hip, ?_⟩
  by_contra hne
  obtain rfl := (agentStep_writes hseq hrst h).state hne
  cases h
  exact hne (by rw [isrStep_of_disabled (by simp [handlerEnabled, hien])])

/-- Settles O49: IEN = 0 and IPEND = 0 last, and IRQ.ON does not write IPEND. -/
theorem edgesWhileDisabledAreLost : Obligations.EdgesWhileDisabledAreLost := by
  intro s ms hinv hien hms t
  obtain ⟨-, hip, hstate⟩ : t.ien = false ∧ t.ipend = false ∧ t.state = s.state := by
    refine runMoves_induction (P := fun t => t.ien = false ∧ t.ipend = false ∧ t.state = s.state) _
      (fun m u hm hu => ?_) ms s hms ⟨hien, hinv.pendingNeedsEnable hien, rfl⟩
    obtain ⟨h1, h2, h3⟩ := agentStep_disabled hm.1 hm.2 (agentStep_eq_agentNext m u) hu.1 hu.2.1
    exact ⟨h1, h2, h3.trans hu.2.2⟩
  refine ⟨hip, hstate, fun u hu => ?_⟩
  cases hu
  simp [handlerEnabled, hip]

/-! ### Runs with their ticks of `clk` -/

/-- 1 for a tick of `clk`, 0 for another move. -/
def tick (m : Move) : Nat := if m = .clk then 1 else 0

theorem tick_of_ne {m : Move} (h : m ≠ .clk) : tick m = 0 := if_neg h

@[simp] theorem count_clk_cons (m : Move) (ms : List Move) : (m :: ms).count .clk = tick m + ms.count .clk := by
  by_cases h : m = .clk <;> simp [tick, h, Nat.add_comm]

/-- A property of the ticks so far and the state that every listed move keeps holds after the list. -/
theorem runMoves_count_induction {P : Nat → State → Prop} (ok : Move → Prop)
    (hstep : ∀ m c s, ok m → P c s → P (c + tick m) (agentNext m s)) (ms : List Move) (c : Nat) (s : State)
    (hok : ∀ m ∈ ms, ok m) (h : P c s) : P (c + ms.count .clk) (runMoves ms s) := by
  induction ms generalizing c s with
  | nil => exact h
  | cons m ms ih =>
    rw [runMoves_cons, count_clk_cons, ← Nat.add_assoc]
    exact ih _ _ (fun m' hm' => hok m' (List.mem_cons_of_mem _ hm')) (hstep m c s (hok m List.mem_cons_self) h)

/-! ### The TCU by its ticks (40_timer_ops.md R111) -/

/-- The TCU in configuration `k` of `p`, `j` ticks after its start with TFLAG = 0. -/
structure TcuAt (p : Params) (k : TimerCfg) (j : Nat) (s : State) : Prop where
  params : s.params = p
  trun : s.trun = true
  tpre : s.tpre = p.prescale k
  tcmp : s.tcmp = p.thresh k
  tdiv : s.tdiv = j % p.prescale k
  tcnt : s.tcnt = (j / p.prescale k) % 2 ^ p.wCnt
  tflag : s.tflag = decide (p.thresh k ≤ j / p.prescale k)

theorem tcuStart_tcuAt (k : TimerCfg) (hf : s.tflag = false) : TcuAt s.params k 0 (tcuStart k s) := by
  have hT := thresh_pos s.params k
  refine ⟨rfl, rfl, rfl, rfl, by simp, by simp, ?_⟩
  rw [tcuStart_tflag, hf, Nat.zero_div]
  exact (decide_eq_false (by omega)).symm

/-- A tick ends a prescaler phase or goes on in it. -/
theorem succ_div_mod_cases {n : Nat} (hn : 0 < n) (j : Nat) :
    (j % n + 1 = n ∧ (j + 1) / n = j / n + 1 ∧ (j + 1) % n = 0) ∨
    (j % n + 1 ≠ n ∧ (j + 1) / n = j / n ∧ (j + 1) % n = j % n + 1) := by
  have hj := Nat.div_add_mod j n
  have hlt := Nat.mod_lt j hn
  by_cases h : j % n + 1 = n
  · exact .inl ⟨h, (Nat.div_mod_unique hn).mpr ⟨by rw [Nat.mul_add]; omega, hn⟩⟩
  · exact .inr ⟨h, (Nat.div_mod_unique hn).mpr ⟨by omega, by omega⟩⟩

/-- The compare at a phase end, where the counter has not wrapped around before the threshold. -/
theorem compareFlag_at_phase_end {q cmp w : Nat} (hcmp : cmp < w) :
    compareFlag ((q % w + 1) % w) cmp (decide (cmp ≤ q)) = decide (cmp ≤ q + 1) := by
  by_cases hq : cmp ≤ q
  · have hq' : cmp ≤ q + 1 := by omega
    simp [compareFlag, hq, hq']
  · rw [Nat.mod_eq_of_lt (show q < w by omega), Nat.mod_eq_of_lt (show q + 1 < w by omega), compareFlag,
      decide_eq_false hq]
    by_cases heq : q + 1 = cmp
    · rw [if_pos heq]
      exact (decide_eq_true (by omega)).symm
    · rw [if_neg heq]
      exact (decide_eq_false (by omega)).symm

theorem clkStep_tcuAt {p : Params} {k : TimerCfg} {j : Nat} (h : TcuAt p k j s) : TcuAt p k (j + 1) (clkStep s) := by
  obtain ⟨hparams, htrun, htpre, htcmp, htdiv, htcnt, htflag⟩ := h
  obtain ⟨hr, -⟩ | ⟨-, hd, heq⟩ | ⟨-, hd, heq⟩ := clkStep_cases s
  · rw [htrun] at hr; cases hr
  · rw [htdiv, htpre] at hd
    obtain ⟨hd', -⟩ | ⟨-, hdiv, hmod⟩ := succ_div_mod_cases (prescale_pos p k) j
    · exact absurd hd' hd
    · rw [heq]
      exact ⟨hparams, htrun, htpre, htcmp, by rw [hmod, ← htdiv], by rw [hdiv, ← htcnt], by rw [hdiv, ← htflag]⟩
  · rw [htdiv, htpre] at hd
    obtain ⟨-, hdiv, hmod⟩ | ⟨hd', -⟩ := succ_div_mod_cases (prescale_pos p k) j
    · rw [heq]
      refine ⟨hparams, htrun, htpre, htcmp, by rw [hmod], ?_, ?_⟩
      · rw [hdiv, htcnt, hparams]
        exact Nat.mod_add_mod _ _ _
      · rw [hdiv, htcnt, hparams, htcmp, htflag]
        exact compareFlag_at_phase_end (thresh_lt p k)
    · exact absurd hd hd'

theorem TcuAt.of_agentNext {p : Params} {k : TimerCfg} {j : Nat} {m : Move} (h : TcuAt p k j s) (hseq : m ≠ .seq)
    (hrst : isRst m = false) : TcuAt p k (j + tick m) (agentNext m s) := by
  by_cases hm : m = .clk
  · subst hm
    exact clkStep_tcuAt h
  · have hstep := agentStep_eq_agentNext m s
    have hk := agentStep_seqRegisters hseq hrst hstep
    obtain ⟨hdiv, hcnt, hflag⟩ := (agentStep_writes hseq hrst hstep).tcu hm
    rw [tick_of_ne hm, Nat.add_zero]
    exact ⟨hk.params.trans h.params, hk.trun.trans h.trun, hk.tpre.trans h.tpre, hk.tcmp.trans h.tcmp,
      hdiv.trans h.tdiv, hcnt.trans h.tcnt, hflag.trans h.tflag⟩

/-- TFLAG comes with the PRESCALE × THRESH-th tick. -/
theorem thresh_le_div_iff (p : Params) (k : TimerCfg) (j : Nat) :
    p.thresh k ≤ j / p.prescale k ↔ p.prescale k * p.thresh k ≤ j := by
  rw [Nat.le_div_iff_mul_le (prescale_pos p k), Nat.mul_comm]

theorem TcuAt.le_of_flag {p : Params} {k : TimerCfg} {j : Nat} (h : TcuAt p k j s) (hf : s.tflag = true) :
    p.prescale k * p.thresh k ≤ j := by
  rw [h.tflag, decide_eq_true_iff, thresh_le_div_iff] at hf
  exact hf

/-- Settles O19: each tick goes from `TcuAt` to the next, the other moves leave the TCU alone. -/
theorem timerFlagAtTheExactTick : Obligations.TimerFlagAtTheExactTick := by
  intro s k ms hf hms t
  have h : TcuAt s.params k (0 + ms.count .clk) t :=
    runMoves_count_induction (P := fun j t => TcuAt s.params k j t) _
      (fun m c u hm hu => hu.of_agentNext hm.1 hm.2) ms 0 _ hms (tcuStart_tcuAt k hf)
  rw [Nat.zero_add] at h
  refine ⟨?_, h.tdiv, h.tcnt⟩
  rw [h.tflag, decide_eq_decide]
  exact thresh_le_div_iff s.params k _

/-! ### Holds that last (R112, 70_reset_and_hazards.md R252, R255) -/

theorem SeqRegistersKept.trans {u : State} (h : SeqRegistersKept s t) (h' : SeqRegistersKept t u) :
    SeqRegistersKept s u := by
  constructor
  case pc => exact h'.pc.trans h.pc
  case ph => exact h'.ph.trans h.ph
  case wrem => exact h'.wrem.trans h.wrem
  case wcfg => exact h'.wcfg.trans h.wcfg
  case fault => exact h'.fault.trans h.fault
  case fcause => exact h'.fcause.trans h.fcause
  case mag => exact h'.mag.trans h.mag
  case aden => exact h'.aden.trans h.aden
  case adrdy => exact h'.adrdy.trans h.adrdy
  case cdir => exact h'.cdir.trans h.cdir
  case cduty => exact h'.cduty.trans h.cduty
  case men => exact h'.men.trans h.men
  case ien => exact h'.ien.trans h.ien
  case gie => exact h'.gie.trans h.gie
  case trun => exact h'.trun.trans h.trun
  case tpre => exact h'.tpre.trans h.tpre
  case tcmp => exact h'.tcmp.trans h.tcmp
  case cdig => exact h'.cdig.trans h.cdig
  case segout => exact h'.segout.trans h.segout
  case params => exact h'.params.trans h.params
  case rom => exact h'.rom.trans h.rom
  case moves => exact h'.moves.trans h.moves

theorem SeqRegistersKept.opIs {f : Instr → Bool} (h : SeqRegistersKept s t) : opIs f t ↔ opIs f s :=
  opIs_congr h.rom h.pc

theorem exec_timer_hold {i : Instr} (hi : holdsForTimer i = true) (hp : s.ph = true) (hf : s.tflag = false) :
    exec i s = .next s := by
  obtain ⟨k, rfl⟩ | rfl := holdsForTimer_cases hi
  · rw [exec_wait, waitEngine_hold k hp hf]
  · exact execCdrun_hold hp hf

theorem exec_adc_hold {i : Instr} (hi : holdsForAdc i = true) (hp : s.ph = true) (hc : s.adsc = true) :
    exec i s = .next s := by
  obtain rfl | rfl := holdsForAdc_cases hi
  · exact execAdcinit_hold hp hc
  · exact execSample_hold hp hc

theorem agentNext_seq_timer_hold (hf : s.fault = false) (hp : s.ph = true) (hop : opIs holdsForTimer s)
    (hflag : s.tflag = false) : agentNext .seq s = s := by
  obtain ⟨i, hop, hi⟩ := hop
  exact agentNext_seq_exec hf hop (.inr (by simp [blocking_eq, hi])) (exec_timer_hold hi hp hflag)

theorem agentNext_seq_adc_hold (hf : s.fault = false) (hp : s.ph = true) (hop : opIs holdsForAdc s)
    (hc : s.adsc = true) : agentNext .seq s = s := by
  obtain ⟨i, hop, hi⟩ := hop
  exact agentNext_seq_exec hf hop (.inr (by simp [blocking_eq, hi])) (exec_adc_hold hi hp hc)

/-- Settles O22: TFLAG stays 0 without ticks, so SEQ holds and its registers, the outputs among them, stay. -/
theorem timedHoldLastsWithoutTicks : Obligations.TimedHoldLastsWithoutTicks := by
  intro s ms hf hp hop hflag hms t
  obtain ⟨hk, hflag'⟩ : SeqRegistersKept s t ∧ t.tflag = false := by
    refine runMoves_induction (P := fun t => SeqRegistersKept s t ∧ t.tflag = false) _ (fun m u hm hu => ?_) ms s hms
      ⟨.refl s, hflag⟩
    obtain ⟨hk, hflag⟩ := hu
    by_cases hseq : m = .seq
    · subst hseq
      rw [agentNext_seq_timer_hold (hk.fault.trans hf) (hk.ph.trans hp) (hk.opIs.mpr hop) hflag]
      exact ⟨hk, hflag⟩
    · have hstep := agentStep_eq_agentNext m u
      obtain ⟨-, -, hflag'⟩ := (agentStep_writes hseq hm.2 hstep).tcu hm.1
      exact ⟨hk.trans (agentStep_seqRegisters hseq hm.2 hstep), hflag'.trans hflag⟩
  obtain ⟨h1, h2, hduty⟩ := hk.motorPorts
  exact ⟨hk.ph.trans hp, hk.pc, hflag', h1, h2, hduty, hk.segout⟩

/-- Settles O28: ADSC stays 1 without a completion, so SEQ holds and its registers, the outputs among them, stay. -/
theorem stuckConversionKeepsTheMotorCommand : Obligations.StuckConversionKeepsTheMotorCommand := by
  intro s ms hf hp hop hc hms t
  obtain ⟨hk, hc'⟩ : SeqRegistersKept s t ∧ t.adsc = true := by
    refine runMoves_induction (P := fun t => SeqRegistersKept s t ∧ t.adsc = true) _ (fun m u hm hu => ?_) ms s hms
      ⟨.refl s, hc⟩
    obtain ⟨hk, hc⟩ := hu
    by_cases hseq : m = .seq
    · subst hseq
      rw [agentNext_seq_adc_hold (hk.fault.trans hf) (hk.ph.trans hp) (hk.opIs.mpr hop) hc]
      exact ⟨hk, hc⟩
    · have hstep := agentStep_eq_agentNext m u
      refine ⟨hk.trans (agentStep_seqRegisters hseq hm.2 hstep), ?_⟩
      by_contra hne
      have hadc := (agentStep_writes hseq hm.2 hstep).adsc (by rw [hc]; exact hne)
      rw [hm.1] at hadc
      cases hadc
  obtain ⟨h1, h2, hduty⟩ := hk.motorPorts
  exact ⟨hk.ph.trans hp, hk.pc, hc', h1, h2, hduty, hk.segout⟩

end Sys2Proof.Machine
end

section
/-! SUPPORT. Proofs about how long the timed operations last: a WAIT on any schedule and on a prompt one
(40_timer_ops.md R109, R111), the countdown with its display writes (44_display_ops.md R184, R185, R187,
70_reset_and_hazards.md R259). -/

namespace Sys2Proof.Machine

variable {s s₀ t : State} {i : Instr} {k : TimerCfg} {j : Nat} {m : Move}

/-! ### From the issue of an operation on -/

/-- SEQ is about to issue `i` at the PC of `s₀`, and nothing is in progress. -/
structure AtIssue (s₀ : State) (i : Instr) (s : State) : Prop where
  pc : s.pc = s₀.pc
  params : s.params = s₀.params
  op : opAt s = some i
  fault : s.fault = false
  idle : NotHolding s

/-- `i` holds for TFLAG at the PC of `s₀`, `j` ticks after it started the TCU in configuration `k`. -/
structure TimedAt (s₀ : State) (k : TimerCfg) (i : Instr) (j : Nat) (s : State) : Prop where
  pc : s.pc = s₀.pc
  hold : TimerHold i s
  tcu : TcuAt s₀.params k j s

theorem Inv.atIssue (h : Inv s) (hf : s.fault = false) (hp : s.ph = false) (hop : opAt s = some i) : AtIssue s i s :=
  ⟨rfl, rfl, hop, hf, h.notHolding hp⟩

theorem AtIssue.of_agentNext (h : AtIssue s₀ i s) (hseq : m ≠ .seq) (hrst : isRst m = false) :
    AtIssue s₀ i (agentNext m s) := by
  have hstep := agentStep_eq_agentNext m s
  have hk := agentStep_seqRegisters hseq hrst hstep
  exact ⟨hk.pc.trans h.pc, hk.params.trans h.params, (opAt_congr hk.rom hk.pc).trans h.op, hk.fault.trans h.fault,
    h.idle.of_agentStep hseq hrst hstep⟩

theorem TimedAt.of_agentNext (h : TimedAt s₀ k i j s) (hseq : m ≠ .seq) (hrst : isRst m = false) :
    TimedAt s₀ k i (j + tick m) (agentNext m s) := by
  have hstep := agentStep_eq_agentNext m s
  exact ⟨(agentStep_seqRegisters hseq hrst hstep).pc.trans h.pc, h.hold.of_agentStep hseq hrst hstep,
    h.tcu.of_agentNext hseq hrst⟩

/-- While TFLAG has not come, a step of SEQ holds. -/
theorem TimedAt.seq_hold (h : TimedAt s₀ k i j s) (hf : s.tflag = false) : agentNext .seq s = s :=
  agentNext_seq_timer_hold h.hold.fault h.hold.ph ⟨i, h.hold.op, h.hold.holds⟩ hf

theorem tcuRestart_tcuAt (k : TimerCfg) (s : State) : TcuAt s.params k 0 (tcuRestart k s) :=
  tcuStart_tcuAt (s := { s with tflag := false }) k rfl

/-! ### A WAIT on any schedule (R111) -/

variable {w : WaitKind}

theorem AtIssue.seq_wait (h : AtIssue s₀ w.instr s) :
    TimedAt s₀ (kindCfg w) w.instr 0 (agentNext .seq s) ∧ (agentNext .seq s).wrem = kindCount w := by
  have hnext : agentNext .seq s = waitIssue w s :=
    agentNext_seq_exec h.fault h.op (.inl h.idle.ph) (by rw [exec_wait, waitEngine_issue w h.idle.ph])
  rw [hnext]
  refine ⟨⟨h.pc, waitIssue_timerHold h.idle h.fault h.op, ?_⟩, rfl⟩
  rw [← h.params]
  exact tcuStart_tcuAt (s := beginHold { s with wcfg := kindCfg w, wrem := kindCount w }) _ h.idle.tflag

/-- SEQ's step after TFLAG ends the WAIT, or starts the next of the sub-waits owed. -/
theorem TimedAt.seq_wait (h : TimedAt s₀ (kindCfg w) w.instr j s) (hf : s.tflag = true) :
    s.wrem.toNat = 1 ∨
    (2 ≤ s.wrem.toNat ∧ TimedAt s₀ (kindCfg w) w.instr 0 (agentNext .seq s) ∧
      (agentNext .seq s).wrem.toNat = s.wrem.toNat - 1) := by
  have hnext : agentNext .seq s = waitSubEnd s :=
    agentNext_seq_exec h.hold.fault h.hold.op (.inr (blocking_instr w))
      (by rw [exec_wait, waitEngine_subEnd w h.hold.ph hf])
  obtain ⟨hone, -⟩ | ⟨htwo, heq, hpred, hhold⟩ := h.hold.waitSubEnd_cases
  · exact .inl hone
  · refine .inr ⟨htwo, ?_, by rw [hnext, hpred]⟩
    rw [hnext]
    refine ⟨?_, hhold, ?_⟩ <;> rw [heq]
    · exact h.pc
    · rw [← h.tcu.params]
      exact tcuRestart_tcuAt _ { s with wrem := countDown s.wrem }

/-- The WAIT of kind `w` at the PC of `s₀` after `c` ticks: not issued; or holding, with ticks enough for the sub-waits
that are over and the present one's; or with ticks enough for all of them. -/
def WaitPaid (s₀ : State) (w : WaitKind) (c : Nat) (s : State) : Prop :=
  let interval := s₀.params.prescale (kindCfg w) * s₀.params.thresh (kindCfg w)
  AtIssue s₀ w.instr s ∨
  (∃ j, TimedAt s₀ (kindCfg w) w.instr j s ∧ (kindCount w).toNat * interval + j ≤ c + s.wrem.toNat * interval) ∨
  (kindCount w).toNat * interval ≤ c

theorem WaitPaid.of_agentNext {c : Nat} (h : WaitPaid s₀ w c s) (hrst : isRst m = false) :
    WaitPaid s₀ w (c + tick m) (agentNext m s) := by
  obtain hissue | ⟨j, htimed, hpaid⟩ | hall := h
  · by_cases hseq : m = .seq
    · subst hseq
      obtain ⟨htimed, hrem⟩ := hissue.seq_wait
      exact .inr (.inl ⟨0, htimed, by rw [hrem]; omega⟩)
    · exact .inl (hissue.of_agentNext hseq hrst)
  · by_cases hseq : m = .seq
    · subst hseq
      cases hf : s.tflag with
      | false => rw [htimed.seq_hold hf]; exact .inr (.inl ⟨j, htimed, hpaid⟩)
      | true =>
        have hj := htimed.tcu.le_of_flag hf
        obtain hone | ⟨htwo, htimed', hrem⟩ := htimed.seq_wait hf
        · rw [hone] at hpaid
          exact .inr (.inr (by omega))
        · refine .inr (.inl ⟨0, htimed', ?_⟩)
          rw [hrem, Nat.sub_one_mul]
          omega
    · have hrem := (agentStep_seqRegisters hseq hrst (agentStep_eq_agentNext m s)).wrem
      exact .inr (.inl ⟨j + tick m, htimed.of_agentNext hseq hrst, by rw [hrem]; omega⟩)
  · exact .inr (.inr (by omega))

/-- Settles O20: `WaitPaid` holds all along, and its first two cases leave PC where it was. -/
theorem waitDurationLowerBound : Obligations.WaitDurationLowerBound := by
  intro s w ms hinv hf hp hop hms hpc
  have h : WaitPaid s w (0 + ms.count .clk) (runMoves ms s) :=
    runMoves_count_induction (P := WaitPaid s w) _ (fun m c t hm ht => ht.of_agentNext hm) ms 0 s hms
      (.inl (hinv.atIssue hf hp hop))
  rw [Nat.zero_add] at h
  obtain hissue | ⟨j, htimed, -⟩ | hall := h
  · exact absurd hissue.pc hpc
  · exact absurd htimed.pc hpc
  · exact hall

/-! ### A WAIT on a prompt schedule (R109) -/

/-- A tick writes the three counting registers only (R102). -/
theorem clkStep_eq (s : State) :
    clkStep s = { s with tdiv := (clkStep s).tdiv, tcnt := (clkStep s).tcnt, tflag := (clkStep s).tflag } := by
  obtain ⟨-, h⟩ | ⟨-, -, h⟩ | ⟨-, -, h⟩ := clkStep_cases s <;> rw [h]

/-- Ticks alone, from the start of the TCU: the three counting registers are those of `TcuAt`. -/
theorem runMoves_ticks {p : Params} (n : Nat) (h : TcuAt p k j s) :
    runMoves (List.replicate n .clk) s =
      { s with
        tdiv := (j + n) % p.prescale k
        tcnt := ((j + n) / p.prescale k) % 2 ^ p.wCnt
        tflag := decide (p.thresh k ≤ (j + n) / p.prescale k) } := by
  induction n generalizing j s with
  | zero => simp only [List.replicate_zero, runMoves_nil, Nat.add_zero, ← h.tdiv, ← h.tcnt, ← h.tflag]
  | succ n ih =>
    have hnext : agentNext .clk s = clkStep s := rfl
    rw [List.replicate_succ, runMoves_cons, hnext, ih (clkStep_tcuAt h), clkStep_eq]
    simp only [Nat.add_assoc, Nat.add_comm 1 n]

/-- A sub-wait's worth of ticks brings the counter to the threshold and TFLAG with it. -/
theorem runMoves_interval {p : Params} (h : TcuAt p k 0 s) :
    runMoves (List.replicate (p.prescale k * p.thresh k) .clk) s =
      { s with tdiv := 0, tcnt := p.thresh k, tflag := true } := by
  rw [runMoves_ticks _ h, Nat.zero_add, Nat.mul_mod_right, Nat.mul_div_cancel_left _ (prescale_pos p k),
    Nat.mod_eq_of_lt (thresh_lt p k), decide_eq_true (le_refl (p.thresh k))]

/-- `s` with the WAIT of kind `w` at its PC holding, `r` sub-waits owed, the present one just begun. -/
def waitHeld (w : WaitKind) (r : BitVec 4) (s : State) : State :=
  { waitIssue w s with wrem := r, tflag := false }

/-- `s` with the WAIT of kind `w` at its PC completed. -/
def waitDone (w : WaitKind) (s : State) : State :=
  { s with
    wcfg := kindCfg w, wrem := 0, tpre := s.params.prescale (kindCfg w), tcmp := s.params.thresh (kindCfg w),
    tcnt := s.params.thresh (kindCfg w), tdiv := 0, trun := false, tflag := false, ph := false, pc := s.pc + 1 }

/-- A sub-wait's ticks and a SEQ step. -/
def subWait (w : WaitKind) (s : State) : List Move :=
  List.replicate (s.params.prescale (kindCfg w) * s.params.thresh (kindCfg w)) .clk ++ [.seq]

theorem runMoves_subWait {r : BitVec 4} (hf : s.fault = false) (hop : opAt s = some w.instr) :
    runMoves (subWait w s) (waitHeld w r s) =
      waitSubEnd { waitHeld w r s with tdiv := 0, tcnt := s.params.thresh (kindCfg w), tflag := true } := by
  have htcu : TcuAt s.params (kindCfg w) 0 (waitHeld w r s) :=
    tcuStart_tcuAt (s := { s with wcfg := kindCfg w, wrem := r, tflag := false, ph := true }) _ rfl
  rw [subWait, runMoves_append, runMoves_interval htcu, runMoves_cons, runMoves_nil]
  exact agentNext_seq_exec hf hop (.inr (blocking_instr w)) (by rw [exec_wait]; exact waitEngine_subEnd w rfl rfl)

/-- As many sub-waits as are owed complete the WAIT. -/
theorem runMoves_subWaits {r : BitVec 4} (n : Nat) (hr : r.toNat = n + 1) (hf : s.fault = false)
    (hop : opAt s = some w.instr) :
    runMoves (List.replicate (n + 1) (subWait w s)).flatten (waitHeld w r s) = waitDone w s := by
  induction n generalizing r with
  | zero =>
    rw [List.replicate_one, List.flatten_singleton, runMoves_subWait hf hop]
    exact waitSubEnd_last (BitVec.eq_of_toNat_eq hr)
  | succ n ih =>
    have hne : r ≠ 1 := by rintro rfl; simp at hr
    have hpred : (countDown r).toNat = n + 1 := by
      rw [countDown_toNat (toNat_ne_zero_of_one_le (by omega))]
      omega
    rw [List.replicate_succ, List.flatten_cons, runMoves_append, runMoves_subWait hf hop, ← ih hpred]
    exact congrArg _ (waitSubEnd_more hne)

/-- Settles O21: the issue begins the first sub-wait, and each sub-wait's ticks bring the flag that ends it. -/
theorem waitCompletesOnAPromptSchedule : Obligations.WaitCompletesOnAPromptSchedule := by
  intro s w hf hp hflag hop ticks
  have hissue : agentNext .seq s = waitHeld w (kindCount w) s := by
    refine agentNext_seq_exec hf hop (.inl hp) ?_
    rw [exec_wait, waitEngine_issue w hp, waitHeld, ← hflag]
    rfl
  have hcount : (kindCount w).toNat - 1 + 1 = (kindCount w).toNat := Nat.sub_add_cancel (kindCount_pos w)
  have hrun := runMoves_subWaits (s := s) (w := w) ((kindCount w).toNat - 1) hcount.symm hf hop
  rw [hcount] at hrun
  rw [runMoves_cons, hissue]
  exact hrun

/-! ### Display writes (44_display_ops.md R187) -/

theorem displayWrite_of_ne_seq (hm : m ≠ .seq) : displayWrite m s = none := by simp [displayWrite, hm]

theorem displayWrite_of_no_op (hop : opAt s = none) : displayWrite .seq s = none := by simp [displayWrite, hop]

/-- An operation that neither blocks nor is being issued makes no display write. -/
theorem displayWrite_of_not_blocking (hp : s.ph = true) (hb : ¬ opIs blocking s) : displayWrite .seq s = none := by
  unfold displayWrite
  split
  · split <;> simp_all [opIs, blocking]
  · rfl

/-- Of the operations DISPINIT, DISP.CLR, DISP and CDRUN write the display. -/
def writesDisplay (i : Instr) : Prop := i = .dispinit ∨ (∃ d, i = .disp d) ∨ i = .dispClr ∨ i = .cdrun

theorem displayWrite_of_other (hop : opAt s = some i) (hi : ¬ writesDisplay i) : displayWrite .seq s = none := by
  simp only [writesDisplay, not_or, not_exists] at hi
  obtain ⟨h1, h2, h3, h4⟩ := hi
  unfold displayWrite
  rw [hop]
  split
  · cases i <;> simp_all
  · rfl

theorem displayWrite_cdrun (hf : s.fault = false) (hop : opAt s = some .cdrun) :
    displayWrite .seq s =
      if s.ph then
        if s.tflag then some (if s.cdig = 0 then s.params.segBlank else segRead s.params (s.cdig - 1)) else none
      else some (segRead s.params 9) := by
  simp [displayWrite, hf, hop]

theorem opAt_wellFormed (hop : opAt s = some i) : i.wellFormed = true := by
  have hfetch := fetch_of_opAt hop
  unfold fetch at hfetch
  split at hfetch
  · cases hfetch
  · split at hfetch
    · rename_i hd
      cases hfetch
      exact (decodeWord_encodes hd).wellFormed
    · cases hfetch

theorem execCdrun_segout (hf : s.fault = false) (hop : opAt s = some .cdrun) (h : execCdrun s = .next t) :
    t.segout = (displayWrite .seq s).getD s.segout := by
  rw [displayWrite_cdrun hf hop]
  obtain ⟨hp, rfl⟩ | ⟨hp, hflag, rfl⟩ | ⟨hp, hflag, rfl⟩ := execCdrun_cases h
  · simp [hp]
  · simp [hp, hflag]
  · by_cases hd : s.cdig = 0
    · rw [countdownStep_last hd]; simp [hp, hflag, hd]
    · rw [countdownStep_more hd]; simp [hp, hflag, show ¬ s.cdig = 0#4 from hd]

theorem exec_segout (hf : s.fault = false) (hop : opAt s = some i) (hb : s.ph = false ∨ blocking i = true)
    (h : exec i s = .next t) : t.segout = (displayWrite .seq s).getD s.segout := by
  by_cases hi : writesDisplay i
  · obtain rfl | ⟨d, rfl⟩ | rfl | rfl := hi
    · have hp : s.ph = false := hb.resolve_right (by decide)
      cases h
      simp [displayWrite, hf, hop, hp]
    · have hp : s.ph = false := hb.resolve_right (by simp [blocking])
      obtain ⟨-, rfl⟩ | ⟨hd, -⟩ := execDisp_cases h
      · simp [displayWrite, hf, hop, hp]
      · cases (opAt_wellFormed hop).symm.trans hd
    · have hp : s.ph = false := hb.resolve_right (by decide)
      cases h
      simp [displayWrite, hf, hop, hp]
    · exact execCdrun_segout hf hop h
  · rw [displayWrite_of_other hop hi]
    exact not_imp_comm.mp (exec_writes h).segout hi

theorem agentStep_segout (h : agentStep m s = .next t) (hrst : isRst m = false) :
    t.segout = (displayWrite m s).getD s.segout := by
  by_cases hseq : m = .seq
  · subst hseq
    obtain ⟨hf, rfl⟩ | ⟨-, hp, rfl, hb⟩ | ⟨-, -, hop, c, -, rfl⟩ | ⟨hf, i, hop, hb, he⟩ := seqStep_cases h
    · simp [displayWrite, hf]
    · rw [displayWrite_of_not_blocking hp hb]; rfl
    · rw [displayWrite_of_no_op hop]; rfl
    · exact exec_segout hf hop hb he
  · rw [displayWrite_of_ne_seq hseq]
    exact (agentStep_seqRegisters hseq hrst h).segout

theorem runMoves_segout (ms : List Move) (s : State) (hms : ∀ m ∈ ms, isRst m = false) :
    (runMoves ms s).segout = (displayTrace ms s).getLastD s.segout := by
  induction ms generalizing s with
  | nil => rfl
  | cons m ms ih =>
    have hfirst := agentStep_segout (agentStep_eq_agentNext m s) (hms m List.mem_cons_self)
    rw [runMoves_cons, displayTrace, ih _ fun m' hm' => hms m' (List.mem_cons_of_mem _ hm'), hfirst]
    cases displayWrite m s with
    | none => rfl
    | some b => exact List.getLastD_cons.symm

/-- Settles O59: the write of each step, and along a run the last of them; the port is the register. -/
theorem segoutHoldsTheLastDisplayWrite : Obligations.SegoutHoldsTheLastDisplayWrite :=
  ⟨fun _ _ _ => agentStep_segout, fun s ms hms => ⟨runMoves_segout ms s hms, runMoves_segout ms s hms⟩⟩

/-! ### The countdown (R184, R185) -/

/-- CDRUN at the PC of `s₀` after `n` display writes, `j` ticks after the last one: not issued, holding at the digit of
the last write, or completed. -/
inductive CountdownAt (s₀ : State) : Nat → Nat → State → Prop
  | issuing {j : Nat} {s : State} (h : AtIssue s₀ .cdrun s) : CountdownAt s₀ 0 j s
  | showing {n j : Nat} {s : State} (h : TimedAt s₀ .s .cdrun j s) (hd : n + s.cdig.toNat = 10) : CountdownAt s₀ n j s
  | done {j : Nat} {s : State} (hpc : s.pc = s₀.pc + 1) (hp : s.ph = false) : CountdownAt s₀ 11 j s

variable {n : Nat}

theorem CountdownAt.le (h : CountdownAt s₀ n j s) : n ≤ 11 := by
  cases h <;> omega

/-- PC stands at CDRUN until the eleven writes are made. -/
theorem CountdownAt.pc_iff (h : CountdownAt s₀ n j s) : s.pc ≠ s₀.pc ↔ n = 11 := by
  cases h with
  | issuing h => simp [h.pc]
  | showing h hd => simp [h.pc]; omega
  | done hpc hp => simp [hpc]

theorem CountdownAt.pc_and_ph_of_done (h : CountdownAt s₀ 11 j s) : s.pc = s₀.pc + 1 ∧ s.ph = false := by
  cases h with
  | showing h hd => omega
  | done hpc hp => exact ⟨hpc, hp⟩

/-- The write after `n` writes is that of the digit 9 - n. -/
theorem countdownWrites_digit (p : Params) {d : BitVec 4} (h : n + d.toNat = 9) :
    (countdownWrites p)[n]? = some (segRead p d) := by
  have hn : n ≤ 9 := by omega
  have hd : d = BitVec.ofNat 4 (9 - n) := BitVec.eq_of_toNat_eq (by rw [BitVec.toNat_ofNat]; omega)
  subst hd
  interval_cases n <;> rfl

theorem AtIssue.seq_cdrun (h : AtIssue s₀ .cdrun s) :
    displayWrite .seq s = (countdownWrites s₀.params)[0]? ∧ CountdownAt s₀ 1 0 (agentNext .seq s) := by
  have hnext : agentNext .seq s = beginHold (tcuStart .s (showCountdown 9 s)) :=
    agentNext_seq_exec h.fault h.op (.inl h.idle.ph) (execCdrun_issue h.idle.ph)
  constructor
  · rw [displayWrite_cdrun h.fault h.op, countdownWrites_digit (d := 9) s₀.params (by decide), h.params]
    simp [h.idle.ph]
  · rw [hnext]
    refine .showing ⟨h.pc, cdrunIssue_timerHold h.idle h.fault h.op, ?_⟩ (show 1 + (9 : BitVec 4).toNat = 10 from rfl)
    rw [← h.params]
    exact tcuStart_tcuAt (s := beginHold (showCountdown 9 s)) _ h.idle.tflag

/-- SEQ's step after TFLAG makes the next write. -/
theorem TimedAt.seq_cdrun (h : TimedAt s₀ .s .cdrun j s) (hd : n + s.cdig.toNat = 10) (hf : s.tflag = true) :
    displayWrite .seq s = (countdownWrites s₀.params)[n]? ∧ CountdownAt s₀ (n + 1) 0 (agentNext .seq s) := by
  have hnext : agentNext .seq s = countdownStep s :=
    agentNext_seq_exec h.hold.fault h.hold.op (.inr rfl) (execCdrun_flag h.hold.ph hf)
  rw [displayWrite_cdrun h.hold.fault h.hold.op, hnext, ← h.tcu.params]
  obtain ⟨h0, heq⟩ | ⟨hpos, heq, hpred, hhold⟩ := h.hold.countdownStep_cases
  · obtain rfl : n = 10 := by omega
    have hd0 : s.cdig = 0 := BitVec.eq_of_toNat_eq h0
    refine ⟨by simp [h.hold.ph, hf, hd0]; rfl, ?_⟩
    rw [heq]
    exact .done (by rw [endHold_pc, ← h.pc]; rfl) rfl
  · have hne : s.cdig ≠ 0 := by intro h0; simp [h0] at hpos
    refine ⟨?_, .showing ⟨?_, hhold, ?_⟩ (by omega)⟩
    · rw [countdownWrites_digit (d := s.cdig - 1) s.params (by rw [digit_pred_toNat hne]; omega)]
      simp [h.hold.ph, hf, show ¬ s.cdig = 0#4 from hne]
    · rw [heq]; exact h.pc
    · rw [heq, ← h.tcu.params]; exact tcuRestart_tcuAt _ (showCountdown (s.cdig - 1) s)

/-- A step other than RST makes no display write; or the next of the eleven, which but for the first comes no sooner
than PRESCALE × THRESH ticks after the one before. -/
theorem CountdownAt.of_agentNext (h : CountdownAt s₀ n j s) (hn : n < 11) (hrst : isRst m = false) :
    (displayWrite m s = none ∧ CountdownAt s₀ n (j + tick m) (agentNext m s)) ∨
    (displayWrite m s = (countdownWrites s₀.params)[n]? ∧ CountdownAt s₀ (n + 1) 0 (agentNext m s) ∧
      (0 < n → s₀.params.prescale .s * s₀.params.thresh .s ≤ j)) := by
  by_cases hseq : m = .seq
  · subst hseq
    cases h with
    | issuing h =>
      obtain ⟨hwrite, hnext⟩ := h.seq_cdrun
      exact .inr ⟨hwrite, hnext, fun h0 => absurd h0 (by omega)⟩
    | showing h hd =>
      cases hf : s.tflag with
      | false =>
        rw [h.seq_hold hf, displayWrite_cdrun h.hold.fault h.hold.op]
        exact .inl ⟨by simp [h.hold.ph, hf], .showing h hd⟩
      | true =>
        obtain ⟨hwrite, hnext⟩ := h.seq_cdrun hd hf
        exact .inr ⟨hwrite, hnext, fun _ => h.tcu.le_of_flag hf⟩
    | done hpc hp => omega
  · refine .inl ⟨displayWrite_of_ne_seq hseq, ?_⟩
    cases h with
    | issuing h => exact .issuing (h.of_agentNext hseq hrst)
    | showing h hd =>
      refine .showing (h.of_agentNext hseq hrst) ?_
      rw [(agentStep_seqRegisters hseq hrst (agentStep_eq_agentNext m s)).cdig]
      exact hd
    | done hpc hp => omega

/-- No move is RST's, and PC stands at CDRUN before each. -/
def Standing (s₀ : State) (ms : List Move) (s : State) : Prop :=
  (∀ m ∈ ms, isRst m = false) ∧ ∀ k < ms.length, (runMoves (ms.take k) s).pc = s₀.pc

theorem standing_cons {ms : List Move} :
    Standing s₀ (m :: ms) s ↔ isRst m = false ∧ s.pc = s₀.pc ∧ Standing s₀ ms (agentNext m s) := by
  constructor
  · rintro ⟨hrst, hpc⟩
    refine ⟨hrst m List.mem_cons_self, hpc 0 (by simp), fun m' hm' => hrst m' (List.mem_cons_of_mem _ hm'),
      fun k hk => ?_⟩
    exact hpc (k + 1) (by simpa using hk)
  · rintro ⟨hrst, hpc, hrst', hpc'⟩
    refine ⟨by simpa [hrst] using hrst', fun k hk => ?_⟩
    cases k with
    | zero => exact hpc
    | succ k => exact hpc' k (by simpa using hk)

theorem standing_append {ms ns : List Move} (h : Standing s₀ (ms ++ ns) s) :
    Standing s₀ ms s ∧ Standing s₀ ns (runMoves ms s) := by
  induction ms generalizing s with
  | nil => exact ⟨⟨by simp, by simp⟩, h⟩
  | cons m ms ih =>
    obtain ⟨hrst, hpc, htail⟩ := standing_cons.mp h
    obtain ⟨h1, h2⟩ := ih htail
    exact ⟨standing_cons.mpr ⟨hrst, hpc, h1⟩, h2⟩

theorem CountdownAt.lt_of_pc (h : CountdownAt s₀ n j s) (hpc : s.pc = s₀.pc) : n < 11 := by
  have hle := h.le
  have hne : n ≠ 11 := fun hn => h.pc_iff.mpr hn hpc
  omega

/-- The writes along a run continue the eleven where they stood. -/
theorem CountdownAt.displayTrace {ms : List Move} (h : CountdownAt s₀ n j s) (hms : Standing s₀ ms s) :
    ∃ n' j', CountdownAt s₀ n' j' (runMoves ms s) ∧
      (countdownWrites s₀.params).take n ++ displayTrace ms s = (countdownWrites s₀.params).take n' := by
  induction ms generalizing n j s with
  | nil => exact ⟨n, j, h, List.append_nil _⟩
  | cons m ms ih =>
    obtain ⟨hrst, hpc, htail⟩ := standing_cons.mp hms
    obtain ⟨hwrite, hnext⟩ | ⟨hwrite, hnext, -⟩ := h.of_agentNext (h.lt_of_pc hpc) hrst
    · obtain ⟨n', j', hend, htrace⟩ := ih hnext htail
      exact ⟨n', j', hend, by rw [Machine.displayTrace, hwrite]; exact htrace⟩
    · obtain ⟨n', j', hend, htrace⟩ := ih hnext htail
      refine ⟨n', j', hend, ?_⟩
      rw [Machine.displayTrace, hwrite, ← List.append_assoc, ← htrace, List.take_add_one]

/-- Settles O41: the writes so far are the first `n` of the eleven, and PC moves on with the eleventh. -/
theorem cdrunWritesTenDigitsThenTheBlank : Obligations.CdrunWritesTenDigitsThenTheBlank := by
  intro s ms hinv hf hp hop hms hpc
  have hstart : CountdownAt s 0 0 s := .issuing (hinv.atIssue hf hp hop)
  obtain ⟨n, j, hend, htrace⟩ := hstart.displayTrace ⟨hms, hpc⟩
  refine ⟨runMoves_segout ms s hms, n, hend.le, htrace, hend.pc_iff, ?_⟩
  rintro rfl
  exact hend.pc_and_ph_of_done

/-! ### How long the countdown lasts (R185, R259) -/

/-- Each write but the first costs PRESCALE × THRESH ticks since the one before. -/
theorem CountdownAt.writes_le_ticks {ms : List Move} (h : CountdownAt s₀ n j s) (hn : 0 < n)
    (hms : Standing s₀ ms s) :
    (Machine.displayTrace ms s).length * (s₀.params.prescale .s * s₀.params.thresh .s) ≤ j + ms.count .clk := by
  induction ms generalizing n j s with
  | nil => simp [Machine.displayTrace]
  | cons m ms ih =>
    obtain ⟨hrst, hpc, htail⟩ := standing_cons.mp hms
    rw [Machine.displayTrace, count_clk_cons, List.length_append, Nat.add_mul]
    obtain ⟨hwrite, hnext⟩ | ⟨hwrite, hnext, hj⟩ := h.of_agentNext (h.lt_of_pc hpc) hrst
    · have hle := ih hnext hn htail
      rw [hwrite, Option.toList_none, List.length_nil, Nat.zero_mul]
      omega
    · have hle := ih hnext (Nat.succ_pos n) htail
      have hone : (displayWrite m s).toList.length ≤ 1 := by cases displayWrite m s <;> simp
      have hmul := Nat.mul_le_mul_right (s₀.params.prescale .s * s₀.params.thresh .s) hone
      have hj := hj hn
      omega

/-- The countdown at the PC of `s₀` after `c` ticks: at some write with ticks enough for those before it, or with ticks
enough for all eleven. -/
def CountdownPaid (s₀ : State) (c : Nat) (s : State) : Prop :=
  let interval := s₀.params.prescale .s * s₀.params.thresh .s
  (∃ n j, n < 11 ∧ CountdownAt s₀ n j s ∧ (0 < n → n * interval + j ≤ c + interval)) ∨ 10 * interval ≤ c

theorem CountdownPaid.of_agentNext {c : Nat} (h : CountdownPaid s₀ c s) (hrst : isRst m = false) :
    CountdownPaid s₀ (c + tick m) (agentNext m s) := by
  obtain ⟨n, j, hn, hat, hpaid⟩ | hall := h
  · obtain ⟨-, hnext⟩ | ⟨-, hnext, hj⟩ := hat.of_agentNext hn hrst
    · exact .inl ⟨n, j + tick m, hn, hnext, fun h0 => by have := hpaid h0; omega⟩
    · by_cases hlast : n + 1 = 11
      · obtain rfl : n = 10 := by omega
        have := hpaid (by omega)
        have := hj (by omega)
        exact .inr (by omega)
      · refine .inl ⟨n + 1, 0, by omega, hnext, fun _ => ?_⟩
        rw [Nat.add_one_mul]
        obtain rfl | h0 := Nat.eq_zero_or_pos n
        · omega
        · have := hpaid h0
          have := hj h0
          omega
  · exact .inr (by omega)

/-- Settles O58: each further write costs an interval, counted from a write; and before the eleventh ten are paid. -/
theorem countdownDurationLowerBound : Obligations.CountdownDurationLowerBound := by
  intro s hinv hf hp hop interval
  have hstart : CountdownAt s 0 0 s := .issuing (hinv.atIssue hf hp hop)
  refine ⟨fun before m later hrst hpc hwrite => ?between, fun ms hms hpc => ?total⟩
  case between =>
    obtain ⟨hbefore, hrest⟩ := standing_append (s₀ := s) ⟨hrst, hpc⟩
    obtain ⟨hrst', hpc', hlater⟩ := standing_cons.mp hrest
    obtain ⟨n, j, hat, -⟩ := hstart.displayTrace hbefore
    obtain ⟨hnone, -⟩ | ⟨-, hnext, -⟩ := hat.of_agentNext (hat.lt_of_pc hpc') hrst'
    · exact absurd hnone hwrite
    · rw [runMoves_append]
      simpa using hnext.writes_le_ticks (Nat.succ_pos n) hlater
  case total =>
    have h : CountdownPaid s (0 + ms.count .clk) (runMoves ms s) :=
      runMoves_count_induction (P := CountdownPaid s) _ (fun m c t hm ht => ht.of_agentNext hm) ms 0 s hms
        (.inl ⟨0, 0, by decide, hstart, fun h0 => absurd h0 (by decide)⟩)
    rw [Nat.zero_add] at h
    obtain ⟨n, j, hn, hat, -⟩ | hall := h
    · have := hat.pc_iff.mp hpc
      omega
    · exact hall

end Sys2Proof.Machine
end

section
/-! SUPPORT. Under the fairness premises every hold ends (70_reset_and_hazards.md R256): a measure of what a hold still
waits for, which no step raises and the awaited agent's step lowers. -/

namespace Sys2Proof.Machine

variable {s s₀ t : State} {i : Instr} {m : Move}

/-! ### A measure that some step lowers runs out -/

/-- If each step from `holds` ends it or does not raise the measure, and from each state of the run on which it holds
some later step ends it or lowers the measure, it ends. -/
theorem run_reaches {α : Type} [PartialOrder α] [WellFoundedLT α] {holds ended : State → Prop} (μ : State → α)
    (schedule : Nat → Move) (s : State)
    (hstep : ∀ n, holds (runOf schedule s n) → ended (runOf schedule s (n + 1)) ∨
      (holds (runOf schedule s (n + 1)) ∧ μ (runOf schedule s (n + 1)) ≤ μ (runOf schedule s n)))
    (hlive : ∀ n, holds (runOf schedule s n) → ∃ k, n ≤ k ∧
      (holds (runOf schedule s k) → μ (runOf schedule s k) = μ (runOf schedule s n) →
        ended (runOf schedule s (k + 1)) ∨ μ (runOf schedule s (k + 1)) < μ (runOf schedule s k)))
    (n : Nat) (hn : holds (runOf schedule s n)) : ∃ k, ended (runOf schedule s k) := by
  by_contra hnever
  have hnot (k : Nat) : ¬ ended (runOf schedule s k) := fun h => hnever ⟨k, h⟩
  have hstays (d n : Nat) (hn : holds (runOf schedule s n)) :
      holds (runOf schedule s (n + d)) ∧ μ (runOf schedule s (n + d)) ≤ μ (runOf schedule s n) := by
    induction d with
    | zero => exact ⟨hn, le_refl _⟩
    | succ d ih =>
      obtain ⟨hnext, hle⟩ := (hstep (n + d) ih.1).resolve_left (hnot _)
      exact ⟨hnext, hle.trans ih.2⟩
  have hmain (a : α) : ∀ n, holds (runOf schedule s n) → μ (runOf schedule s n) = a → False := by
    induction a using WellFoundedLT.induction with
    | ind a ih =>
      intro n hn ha
      obtain ⟨k, hnk, hk⟩ := hlive n hn
      obtain ⟨hholds, hle⟩ := hstays (k - n) n hn
      rw [Nat.add_sub_cancel' hnk] at hholds hle
      obtain ⟨hnext, hle'⟩ := (hstep k hholds).resolve_left (hnot _)
      obtain heq | hlt := hle.eq_or_lt
      · have hdrop := (hk hholds heq).resolve_left (hnot _)
        exact ih _ (by rw [← ha, ← heq]; exact hdrop) (k + 1) hnext rfl
      · exact ih _ (by rw [← ha]; exact hlt) k hholds rfl
  exact hmain _ n hn rfl

/-- The hold at the PC of `s₀` has ended. -/
def HoldEnded (s₀ s : State) : Prop := s.ph = false ∧ s.pc = s₀.pc + 1

/-! ### Holds for a conversion -/

/-- `i` holds for a conversion at the PC of `s₀`. -/
structure AdcHoldAt (s₀ : State) (i : Instr) (s : State) : Prop where
  pc : s.pc = s₀.pc
  hold : AdcHold i s

/-- 1 while the conversion is running. -/
def adcWait (s : State) : Nat := if s.adsc then 1 else 0

theorem adcWait_le_one (s : State) : adcWait s ≤ 1 := by
  unfold adcWait
  split <;> decide

theorem AdcHoldAt.seq (h : AdcHoldAt s₀ i s) :
    (s.adsc = true ∧ agentNext .seq s = s) ∨ (s.adsc = false ∧ HoldEnded s₀ (agentNext .seq s)) := by
  cases hc : s.adsc with
  | true => exact .inl ⟨rfl, agentNext_seq_adc_hold h.hold.fault h.hold.ph ⟨i, h.hold.op, h.hold.holds⟩ hc⟩
  | false =>
    have hpc : s.pc + 1 = s₀.pc + 1 := by rw [h.pc]
    refine .inr ⟨rfl, ?_⟩
    obtain rfl | rfl := holdsForAdc_cases h.hold.holds
    · rw [agentNext_seq_exec h.hold.fault h.hold.op (.inr rfl) (execAdcinit_complete h.hold.ph hc)]
      exact ⟨rfl, hpc⟩
    · rw [agentNext_seq_exec h.hold.fault h.hold.op (.inr rfl) (execSample_complete h.hold.ph hc)]
      exact ⟨rfl, hpc⟩

theorem AdcHoldAt.of_agentNext (h : AdcHoldAt s₀ i s) (hrst : isRst m = false) :
    HoldEnded s₀ (agentNext m s) ∨ (AdcHoldAt s₀ i (agentNext m s) ∧ adcWait (agentNext m s) ≤ adcWait s) := by
  by_cases hseq : m = .seq
  · subst hseq
    obtain ⟨-, hsame⟩ | ⟨-, hend⟩ := h.seq
    · rw [hsame]
      exact .inr ⟨h, le_refl _⟩
    · exact .inl hend
  · have hstep := agentStep_eq_agentNext m s
    refine .inr ⟨⟨(agentStep_seqRegisters hseq hrst hstep).pc.trans h.pc, h.hold.of_agentStep hseq hrst hstep⟩, ?_⟩
    cases hc : s.adsc with
    | true => exact (adcWait_le_one _).trans (by simp [adcWait, hc])
    | false => simp [adcWait, hc, agentStep_adsc_of_idle hseq hrst hstep hc]

theorem adcStep_adsc (v : BitVec 10) (s : State) : (adcStep v s).adsc = false := by
  obtain ⟨hc, h⟩ | ⟨-, -, h⟩ | ⟨-, -, h⟩ := adcStep_cases v s <;> rw [h]
  · exact hc
  · rfl
  · rfl

theorem adcHold_ends {schedule : Nat → Move} (hrst : ∀ n, isRst (schedule n) = false) (hadc : adcLive schedule s)
    (hseq : seqLive schedule s) (h : AdcHold i s) : ∃ n, HoldEnded s (runOf schedule s n) := by
  refine run_reaches (holds := AdcHoldAt s i) adcWait schedule s (fun n hn => hn.of_agentNext (hrst n))
    (fun n hn => ?_) 0 ⟨rfl, h⟩
  cases hc : (runOf schedule s n).adsc with
  | true =>
    obtain ⟨k, hnk, hk⟩ := hadc n hc
    refine ⟨k, hnk, fun _ heq => .inr ?_⟩
    rw [heq]
    obtain ⟨v, hm⟩ := exists_adc_of_isAdc hk
    have hnext : runOf schedule s (k + 1) = adcStep v (runOf schedule s k) := by rw [runOf, hm]; rfl
    simp [adcWait, hnext, adcStep_adsc, hc]
  | false =>
    have hen : seqEnabled (runOf schedule s n) :=
      ⟨hn.hold.fault, .inr (.inr ⟨⟨i, hn.hold.op, hn.hold.holds⟩, hc⟩)⟩
    obtain ⟨k, hnk, hk⟩ := hseq n hen
    refine ⟨k, hnk, fun hholds heq => .inl ?_⟩
    have hck : (runOf schedule s k).adsc = false := by
      by_contra hne
      simp [adcWait, hc, hne] at heq
    rw [runOf, hk]
    obtain ⟨hc', -⟩ | ⟨-, hend⟩ := hholds.seq
    · rw [hck] at hc'; cases hc'
    · exact hend

/-! ### Holds for TFLAG -/

/-- `i` holds for TFLAG at the PC of `s₀`. -/
structure TimerHoldAt (s₀ : State) (i : Instr) (s : State) : Prop where
  pc : s.pc = s₀.pc
  hold : TimerHold i s

/-- The ticks until TFLAG. -/
def ticksLeft (s : State) : Nat := if s.tflag then 0 else s.tpre * (s.tcmp - s.tcnt) - s.tdiv

/-- How often `i` starts the timer again. -/
def restartsLeft (i : Instr) (s : State) : Nat := if i = .cdrun then s.cdig.toNat else s.wrem.toNat

/-- What a hold for TFLAG still waits for. -/
def timerWait (i : Instr) (s : State) : Nat ×ₗ Nat := toLex (restartsLeft i s, ticksLeft s)

theorem ticksLeft_pos_iff (h : TimerRuns s) : 0 < ticksLeft s ↔ s.tflag = false := by
  cases hf : s.tflag with
  | true => simp [ticksLeft, hf]
  | false =>
    have hcnt := h.countBelow hf
    have hmul := Nat.mul_le_mul_left s.tpre (show 1 ≤ s.tcmp - s.tcnt by omega)
    have hphase := h.phaseBelow
    simp only [ticksLeft, hf]
    simp
    omega

/-- A tick before TFLAG is one less to come. -/
theorem clkStep_ticksLeft_lt (h : TimerRuns s) (hf : s.tflag = false) : ticksLeft (clkStep s) < ticksLeft s := by
  have hpos := (ticksLeft_pos_iff h).mpr hf
  have hcnt := h.countBelow hf
  have hcmp := h.tcmp_lt
  have hold : ticksLeft s = s.tpre * (s.tcmp - s.tcnt) - s.tdiv := by simp [ticksLeft, hf]
  obtain ⟨hr, -⟩ | ⟨-, hd, heq⟩ | ⟨-, hd, heq⟩ := clkStep_cases s
  · rw [h.trun] at hr; cases hr
  · have hnew : ticksLeft (clkStep s) = s.tpre * (s.tcmp - s.tcnt) - (s.tdiv + 1) := by simp [heq, ticksLeft, hf]
    omega
  · cases hf' : (clkStep s).tflag with
    | true => simpa [ticksLeft, hf'] using hpos
    | false =>
      have hnew : ticksLeft (clkStep s) = s.tpre * (s.tcmp - (s.tcnt + 1)) := by
        unfold ticksLeft
        rw [hf', heq]
        simp [Nat.mod_eq_of_lt (show s.tcnt + 1 < 2 ^ s.params.wCnt by omega)]
      obtain ⟨d, hsub⟩ : ∃ d, s.tcmp - s.tcnt = d + 1 := ⟨s.tcmp - s.tcnt - 1, by omega⟩
      rw [hsub, Nat.mul_add_one] at hold
      rw [show s.tcmp - (s.tcnt + 1) = d by omega] at hnew
      omega

theorem clkStep_tflag_of_set (hf : s.tflag = true) : (clkStep s).tflag = true := by
  obtain ⟨-, h⟩ | ⟨-, -, h⟩ | ⟨-, -, h⟩ := clkStep_cases s <;> rw [h] <;> simp [compareFlag, hf]

theorem ticksLeft_of_agentNext (h : TimerRuns s) (hseq : m ≠ .seq) (hrst : isRst m = false) :
    ticksLeft (agentNext m s) ≤ ticksLeft s := by
  by_cases hm : m = .clk
  · subst hm
    show ticksLeft (clkStep s) ≤ ticksLeft s
    cases hf : s.tflag with
    | false => exact (clkStep_ticksLeft_lt h hf).le
    | true => simp [ticksLeft, clkStep_tflag_of_set hf]
  · have hstep := agentStep_eq_agentNext m s
    have hk := agentStep_seqRegisters hseq hrst hstep
    obtain ⟨hdiv, hcnt, hflag⟩ := (agentStep_writes hseq hrst hstep).tcu hm
    simp [ticksLeft, hdiv, hcnt, hflag, hk.tpre, hk.tcmp]

theorem restartsLeft_of_agentNext (hseq : m ≠ .seq) (hrst : isRst m = false) :
    restartsLeft i (agentNext m s) = restartsLeft i s := by
  have hk := agentStep_seqRegisters hseq hrst (agentStep_eq_agentNext m s)
  simp [restartsLeft, hk.cdig, hk.wrem]

/-- SEQ's step after TFLAG ends the hold, or starts the timer again, once less to come. -/
theorem TimerHoldAt.seq_flag (h : TimerHoldAt s₀ i s) (hf : s.tflag = true) :
    HoldEnded s₀ (agentNext .seq s) ∨
      (TimerHoldAt s₀ i (agentNext .seq s) ∧ restartsLeft i (agentNext .seq s) < restartsLeft i s) := by
  have hpc : s.pc + 1 = s₀.pc + 1 := by rw [h.pc]
  obtain ⟨hpc₀, hold⟩ := h
  obtain ⟨k, rfl⟩ | rfl := holdsForTimer_cases hold.holds
  · have hnext : agentNext .seq s = waitSubEnd s :=
      agentNext_seq_exec hold.fault hold.op (.inr (blocking_instr k))
        (by rw [exec_wait, waitEngine_subEnd k hold.ph hf])
    rw [hnext]
    obtain ⟨-, heq⟩ | ⟨htwo, heq, hpred, hhold⟩ := hold.waitSubEnd_cases
    · exact .inl (by rw [heq]; exact ⟨rfl, hpc⟩)
    · refine .inr ⟨⟨by rw [heq]; exact hpc₀, hhold⟩, ?_⟩
      simp only [restartsLeft, instr_ne_cdrun k, if_false]
      omega
  · have hnext : agentNext .seq s = countdownStep s :=
      agentNext_seq_exec hold.fault hold.op (.inr rfl) (execCdrun_flag hold.ph hf)
    rw [hnext]
    obtain ⟨-, heq⟩ | ⟨hone, heq, hpred, hhold⟩ := hold.countdownStep_cases
    · exact .inl (by rw [heq]; exact ⟨rfl, hpc⟩)
    · refine .inr ⟨⟨by rw [heq]; exact hpc₀, hhold⟩, ?_⟩
      simp only [restartsLeft, if_true]
      omega

theorem TimerHoldAt.seq_hold (h : TimerHoldAt s₀ i s) (hf : s.tflag = false) : agentNext .seq s = s :=
  agentNext_seq_timer_hold h.hold.fault h.hold.ph ⟨i, h.hold.op, h.hold.holds⟩ hf

theorem TimerHoldAt.of_agentNext (h : TimerHoldAt s₀ i s) (hrst : isRst m = false) :
    HoldEnded s₀ (agentNext m s) ∨
      (TimerHoldAt s₀ i (agentNext m s) ∧ timerWait i (agentNext m s) ≤ timerWait i s) := by
  by_cases hseq : m = .seq
  · subst hseq
    cases hf : s.tflag with
    | false =>
      rw [h.seq_hold hf]
      exact .inr ⟨h, le_refl _⟩
    | true => exact (h.seq_flag hf).imp_right fun ⟨hnext, hlt⟩ => ⟨hnext, (Prod.Lex.toLex_lt_toLex.mpr (.inl hlt)).le⟩
  · have hstep := agentStep_eq_agentNext m s
    refine .inr ⟨⟨(agentStep_seqRegisters hseq hrst hstep).pc.trans h.pc, h.hold.of_agentStep hseq hrst hstep⟩, ?_⟩
    exact Prod.Lex.toLex_le_toLex.mpr
      (.inr ⟨restartsLeft_of_agentNext hseq hrst, ticksLeft_of_agentNext h.hold.runs hseq hrst⟩)

theorem timerWait_eq_iff :
    timerWait i t = timerWait i s ↔ restartsLeft i t = restartsLeft i s ∧ ticksLeft t = ticksLeft s := by
  simp [timerWait]

theorem timerHold_ends {schedule : Nat → Move} (hrst : ∀ n, isRst (schedule n) = false) (hclk : clkLive schedule)
    (hseq : seqLive schedule s) (h : TimerHold i s) : ∃ n, HoldEnded s (runOf schedule s n) := by
  refine run_reaches (holds := TimerHoldAt s i) (timerWait i) schedule s (fun n hn => hn.of_agentNext (hrst n))
    (fun n hn => ?_) 0 ⟨rfl, h⟩
  have sameFlag {k : Nat} (hk : TimerHoldAt s i (runOf schedule s k))
      (heq : timerWait i (runOf schedule s k) = timerWait i (runOf schedule s n)) :
      (runOf schedule s k).tflag = false ↔ (runOf schedule s n).tflag = false := by
    rw [← ticksLeft_pos_iff hk.hold.runs, ← ticksLeft_pos_iff hn.hold.runs, (timerWait_eq_iff.mp heq).2]
  cases hf : (runOf schedule s n).tflag with
  | false =>
    obtain ⟨k, hnk, hk⟩ := hclk n
    refine ⟨k, hnk, fun hholds heq => .inr ?_⟩
    have hlt := clkStep_ticksLeft_lt hholds.hold.runs ((sameFlag hholds heq).mpr hf)
    rw [runOf, hk]
    exact Prod.Lex.toLex_lt_toLex.mpr (.inr ⟨restartsLeft_of_agentNext (by decide) rfl, hlt⟩)
  | true =>
    have hen : seqEnabled (runOf schedule s n) :=
      ⟨hn.hold.fault, .inr (.inl ⟨⟨i, hn.hold.op, hn.hold.holds⟩, hf⟩)⟩
    obtain ⟨k, hnk, hk⟩ := hseq n hen
    refine ⟨k, hnk, fun hholds heq => ?_⟩
    have hflag : (runOf schedule s k).tflag = true := by
      by_contra hne
      rw [(sameFlag hholds heq).mp (by simpa using hne)] at hf
      cases hf
    rw [runOf, hk]
    exact (hholds.seq_flag hflag).imp_right fun ⟨_, hlt⟩ => Prod.Lex.toLex_lt_toLex.mpr (.inl hlt)

/-- Settles O23: a hold is for TFLAG or for a conversion, and in each what it waits for runs out. -/
theorem everyHoldEndsUnderFairness : Obligations.EveryHoldEndsUnderFairness := by
  intro schedule s hinv hf hp hrst hclk hadc hseq
  obtain hn | ⟨i, ht⟩ | ⟨i, ha⟩ := hinv.inPhase
  · rw [hn.ph] at hp
    cases hp
  · exact timerHold_ends hrst hclk hseq ht
  · exact adcHold_ends hrst hadc hseq ha

end Sys2Proof.Machine
end
